-- ==== Sys2Proof/Word.lean ====
section
/-! DEFINITION. The two word types of the hardware: the byte of the 8-bit bus (R8, R100) and the 16-bit
word of addresses and register cells (R8, R30). -/

namespace Sys2Proof

/-- One byte, the unit of every bus access (R100). -/
abbrev Byte := BitVec 8

/-- One 16-bit word: an address or a register cell (R8, R30). -/
abbrev Word := BitVec 16

end Sys2Proof
end

