-- ==== Sys2Proof/Machine/Bits.lean ====
section
/-! DEFINITION. Byte views of a 16-bit cell (R30), concatenation (R11) and sign extension (R12). -/

namespace Sys2Proof

/-- `Hi(w) = w[15:8]` (R30). -/
def hiByte (w : Word) : Byte := w.extractLsb' 8 8

/-- `Lo(w) = w[7:0]` (R30). -/
def loByte (w : Word) : Byte := w.extractLsb' 0 8

/-- `h : l`, the word with high byte `h` and low byte `l` (R11). -/
def mkWord (h l : Byte) : Word := h ++ l

/-- `SetHi(w, v)` (R30). -/
def setHi (w : Word) (v : Byte) : Word := mkWord v (loByte w)

/-- `SetLo(w, v)` (R30). -/
def setLo (w : Word) (v : Byte) : Word := mkWord (hiByte w) v

/-- `sext_16(v)`: values above 127 are negative offsets (R12). -/
def sext16 (v : Byte) : Word := v.signExtend 16

/-- The byte with value `1` where the flag is set, as the carry enters arithmetic (R280). -/
def bitOf (c : Bool) : Nat := if c then 1 else 0

end Sys2Proof
end

