-- ==== Sys2Proof/Syntax.lean ====
section
/-! DEFINITION. The syntax of instructions: register, operand, condition and operation names (R31, R203–R207), and
`Instr` with one constructor for each of the 512 rows of `opcode_table.json` (R209, R210). In a constructor's name
`m` before an operand is a memory operand: `ld_mbc_a` is `LD (BC),A`, `mhli`/`mhld` are `(HL+)`/`(HL-)`, and
`ma16`, `ma8`, `mc` are `(a16)`, `(a8)`, `(C)`. A constructor carries the immediate bytes of its encoding (R201, R208). -/

namespace Sys2Proof

/-- The 8-bit registers an operand field names (R203); F is named by no instruction. -/
inductive Reg8 where
  | b | c | d | e | h | l | a
  deriving DecidableEq, Repr

/-- An 8-bit operand: a register, or the byte at address HL (R203). -/
inductive Loc8 where
  | reg (r : Reg8)
  | mhl
  deriving DecidableEq, Repr

/-- The 16-bit registers an operand field names: tables `rp` and `rp2` (R204). -/
inductive Reg16 where
  | bc | de | hl | sp | af
  deriving DecidableEq, Repr

/-- The condition codes (R18, R205). -/
inductive Cond where
  | nz | z | nc | c
  deriving DecidableEq, Repr

/-- The ALU operations (R206). -/
inductive AluOp where
  | add | adc | sub | sbc | and | xor | or | cp
  deriving DecidableEq, Repr

/-- The rotate and shift operations of the prefixed group (R207). -/
inductive ShiftOp where
  | rlc | rrc | rl | rr | sla | sra | swap | srl
  deriving DecidableEq, Repr

/-- One constructor for each row of `opcode_table.json`: first the rows of the main table that carry bytes after the
opcode, then the other rows of the main table (R209), then the prefixed table (R210), each part in opcode order. -/
inductive Instr where
  -- the main table's rows with bytes after the opcode (R201)
  | ld_bc_n16 (n : Word) | ld_b_n8 (n : Byte) | ld_ma16_sp (n : Word) | ld_c_n8 (n : Byte) | stop (n : Byte)
  | ld_de_n16 (n : Word) | ld_d_n8 (n : Byte) | jr_e8 (e : Byte) | ld_e_n8 (n : Byte) | jr_nz_e8 (e : Byte)
  | ld_hl_n16 (n : Word) | ld_h_n8 (n : Byte) | jr_z_e8 (e : Byte) | ld_l_n8 (n : Byte) | jr_nc_e8 (e : Byte)
  | ld_sp_n16 (n : Word) | ld_mhl_n8 (n : Byte) | jr_c_e8 (e : Byte) | ld_a_n8 (n : Byte)
  | jp_nz_a16 (n : Word) | jp_a16 (n : Word) | call_nz_a16 (n : Word) | add_a_n8 (n : Byte)
  | jp_z_a16 (n : Word) | prefix_cb (op2 : Byte) | call_z_a16 (n : Word) | call_a16 (n : Word)
  | adc_a_n8 (n : Byte) | jp_nc_a16 (n : Word) | call_nc_a16 (n : Word) | sub_n8 (n : Byte)
  | jp_c_a16 (n : Word) | call_c_a16 (n : Word) | sbc_a_n8 (n : Byte) | ldh_ma8_a (n : Byte)
  | and_n8 (n : Byte) | add_sp_e8 (e : Byte) | ld_ma16_a (n : Word) | xor_n8 (n : Byte) | ldh_a_ma8 (n : Byte)
  | or_n8 (n : Byte) | ld_hl_sp_e8 (e : Byte) | ld_a_ma16 (n : Word) | cp_n8 (n : Byte)
  -- the other rows of 0x00–0x0F (R209)
  | nop | ld_mbc_a | inc_bc | inc_b | dec_b | rlca | add_hl_bc | ld_a_mbc | dec_bc | inc_c | dec_c | rrca
  -- the other rows of 0x10–0x1F (R209)
  | ld_mde_a | inc_de | inc_d | dec_d | rla | add_hl_de | ld_a_mde | dec_de | inc_e | dec_e | rra
  -- the other rows of 0x20–0x2F (R209)
  | ld_mhli_a | inc_hl | inc_h | dec_h | daa | add_hl_hl | ld_a_mhli | dec_hl | inc_l | dec_l | cpl
  -- the other rows of 0x30–0x3F (R209)
  | ld_mhld_a | inc_sp | inc_mhl | dec_mhl | scf | add_hl_sp | ld_a_mhld | dec_sp | inc_a | dec_a | ccf
  -- the other rows of 0x40–0x4F (R209)
  | ld_b_b | ld_b_c | ld_b_d | ld_b_e | ld_b_h | ld_b_l | ld_b_mhl | ld_b_a | ld_c_b | ld_c_c | ld_c_d | ld_c_e
  | ld_c_h | ld_c_l | ld_c_mhl | ld_c_a
  -- the other rows of 0x50–0x5F (R209)
  | ld_d_b | ld_d_c | ld_d_d | ld_d_e | ld_d_h | ld_d_l | ld_d_mhl | ld_d_a | ld_e_b | ld_e_c | ld_e_d | ld_e_e
  | ld_e_h | ld_e_l | ld_e_mhl | ld_e_a
  -- the other rows of 0x60–0x6F (R209)
  | ld_h_b | ld_h_c | ld_h_d | ld_h_e | ld_h_h | ld_h_l | ld_h_mhl | ld_h_a | ld_l_b | ld_l_c | ld_l_d | ld_l_e
  | ld_l_h | ld_l_l | ld_l_mhl | ld_l_a
  -- the other rows of 0x70–0x7F (R209)
  | ld_mhl_b | ld_mhl_c | ld_mhl_d | ld_mhl_e | ld_mhl_h | ld_mhl_l | halt | ld_mhl_a | ld_a_b | ld_a_c
  | ld_a_d | ld_a_e | ld_a_h | ld_a_l | ld_a_mhl | ld_a_a
  -- the other rows of 0x80–0x8F (R209)
  | add_a_b | add_a_c | add_a_d | add_a_e | add_a_h | add_a_l | add_a_mhl | add_a_a | adc_a_b | adc_a_c
  | adc_a_d | adc_a_e | adc_a_h | adc_a_l | adc_a_mhl | adc_a_a
  -- the other rows of 0x90–0x9F (R209)
  | sub_b | sub_c | sub_d | sub_e | sub_h | sub_l | sub_mhl | sub_a | sbc_a_b | sbc_a_c | sbc_a_d | sbc_a_e
  | sbc_a_h | sbc_a_l | sbc_a_mhl | sbc_a_a
  -- the other rows of 0xA0–0xAF (R209)
  | and_b | and_c | and_d | and_e | and_h | and_l | and_mhl | and_a | xor_b | xor_c | xor_d | xor_e | xor_h
  | xor_l | xor_mhl | xor_a
  -- the other rows of 0xB0–0xBF (R209)
  | or_b | or_c | or_d | or_e | or_h | or_l | or_mhl | or_a | cp_b | cp_c | cp_d | cp_e | cp_h | cp_l | cp_mhl
  | cp_a
  -- the other rows of 0xC0–0xCF (R209)
  | ret_nz | pop_bc | push_bc | rst_00 | ret_z | ret | rst_08
  -- the other rows of 0xD0–0xDF (R209)
  | ret_nc | pop_de | illegal_d3 | push_de | rst_10 | ret_c | reti | illegal_db | illegal_dd | rst_18
  -- the other rows of 0xE0–0xEF (R209)
  | pop_hl | ld_mc_a | illegal_e3 | illegal_e4 | push_hl | rst_20 | jp_hl | illegal_eb | illegal_ec
  | illegal_ed | rst_28
  -- the other rows of 0xF0–0xFF (R209)
  | pop_af | ld_a_mc | di | illegal_f4 | push_af | rst_30 | ld_sp_hl | ei | illegal_fc | illegal_fd | rst_38
  -- 0xCB 0x00–0xCB 0x0F (R210)
  | rlc_b | rlc_c | rlc_d | rlc_e | rlc_h | rlc_l | rlc_mhl | rlc_a | rrc_b | rrc_c | rrc_d | rrc_e | rrc_h
  | rrc_l | rrc_mhl | rrc_a
  -- 0xCB 0x10–0xCB 0x1F (R210)
  | rl_b | rl_c | rl_d | rl_e | rl_h | rl_l | rl_mhl | rl_a | rr_b | rr_c | rr_d | rr_e | rr_h | rr_l | rr_mhl
  | rr_a
  -- 0xCB 0x20–0xCB 0x2F (R210)
  | sla_b | sla_c | sla_d | sla_e | sla_h | sla_l | sla_mhl | sla_a | sra_b | sra_c | sra_d | sra_e | sra_h
  | sra_l | sra_mhl | sra_a
  -- 0xCB 0x30–0xCB 0x3F (R210)
  | swap_b | swap_c | swap_d | swap_e | swap_h | swap_l | swap_mhl | swap_a | srl_b | srl_c | srl_d | srl_e
  | srl_h | srl_l | srl_mhl | srl_a
  -- 0xCB 0x40–0xCB 0x4F (R210)
  | bit_0_b | bit_0_c | bit_0_d | bit_0_e | bit_0_h | bit_0_l | bit_0_mhl | bit_0_a | bit_1_b | bit_1_c
  | bit_1_d | bit_1_e | bit_1_h | bit_1_l | bit_1_mhl | bit_1_a
  -- 0xCB 0x50–0xCB 0x5F (R210)
  | bit_2_b | bit_2_c | bit_2_d | bit_2_e | bit_2_h | bit_2_l | bit_2_mhl | bit_2_a | bit_3_b | bit_3_c
  | bit_3_d | bit_3_e | bit_3_h | bit_3_l | bit_3_mhl | bit_3_a
  -- 0xCB 0x60–0xCB 0x6F (R210)
  | bit_4_b | bit_4_c | bit_4_d | bit_4_e | bit_4_h | bit_4_l | bit_4_mhl | bit_4_a | bit_5_b | bit_5_c
  | bit_5_d | bit_5_e | bit_5_h | bit_5_l | bit_5_mhl | bit_5_a
  -- 0xCB 0x70–0xCB 0x7F (R210)
  | bit_6_b | bit_6_c | bit_6_d | bit_6_e | bit_6_h | bit_6_l | bit_6_mhl | bit_6_a | bit_7_b | bit_7_c
  | bit_7_d | bit_7_e | bit_7_h | bit_7_l | bit_7_mhl | bit_7_a
  -- 0xCB 0x80–0xCB 0x8F (R210)
  | res_0_b | res_0_c | res_0_d | res_0_e | res_0_h | res_0_l | res_0_mhl | res_0_a | res_1_b | res_1_c
  | res_1_d | res_1_e | res_1_h | res_1_l | res_1_mhl | res_1_a
  -- 0xCB 0x90–0xCB 0x9F (R210)
  | res_2_b | res_2_c | res_2_d | res_2_e | res_2_h | res_2_l | res_2_mhl | res_2_a | res_3_b | res_3_c
  | res_3_d | res_3_e | res_3_h | res_3_l | res_3_mhl | res_3_a
  -- 0xCB 0xA0–0xCB 0xAF (R210)
  | res_4_b | res_4_c | res_4_d | res_4_e | res_4_h | res_4_l | res_4_mhl | res_4_a | res_5_b | res_5_c
  | res_5_d | res_5_e | res_5_h | res_5_l | res_5_mhl | res_5_a
  -- 0xCB 0xB0–0xCB 0xBF (R210)
  | res_6_b | res_6_c | res_6_d | res_6_e | res_6_h | res_6_l | res_6_mhl | res_6_a | res_7_b | res_7_c
  | res_7_d | res_7_e | res_7_h | res_7_l | res_7_mhl | res_7_a
  -- 0xCB 0xC0–0xCB 0xCF (R210)
  | set_0_b | set_0_c | set_0_d | set_0_e | set_0_h | set_0_l | set_0_mhl | set_0_a | set_1_b | set_1_c
  | set_1_d | set_1_e | set_1_h | set_1_l | set_1_mhl | set_1_a
  -- 0xCB 0xD0–0xCB 0xDF (R210)
  | set_2_b | set_2_c | set_2_d | set_2_e | set_2_h | set_2_l | set_2_mhl | set_2_a | set_3_b | set_3_c
  | set_3_d | set_3_e | set_3_h | set_3_l | set_3_mhl | set_3_a
  -- 0xCB 0xE0–0xCB 0xEF (R210)
  | set_4_b | set_4_c | set_4_d | set_4_e | set_4_h | set_4_l | set_4_mhl | set_4_a | set_5_b | set_5_c
  | set_5_d | set_5_e | set_5_h | set_5_l | set_5_mhl | set_5_a
  -- 0xCB 0xF0–0xCB 0xFF (R210)
  | set_6_b | set_6_c | set_6_d | set_6_e | set_6_h | set_6_l | set_6_mhl | set_6_a | set_7_b | set_7_c
  | set_7_d | set_7_e | set_7_h | set_7_l | set_7_mhl | set_7_a
  deriving DecidableEq, Repr

end Sys2Proof
end

