-- ==== Sys2Proof/Decode.lean ====
section
/-! DEFINITION. The operand codes of the encoding (R203–R207), the two opcode tables (R209, R210), the decoder (R220),
the words of `opcode_table.json` given to it (log entry 13), and the encoder. -/

namespace Sys2Proof

/-! ### Operand codes -/

/-- The r8 operand code, fields y and z (R203). -/
def Loc8.ofCode (z : BitVec 3) : Loc8 :=
  match z.toNat with
  | 0 => .reg .b
  | 1 => .reg .c
  | 2 => .reg .d
  | 3 => .reg .e
  | 4 => .reg .h
  | 5 => .reg .l
  | 6 => .mhl
  | _ => .reg .a

/-- Table `rp` of the r16 operand code, field p (R204). -/
def Reg16.ofRp (p : BitVec 2) : Reg16 :=
  match p.toNat with
  | 0 => .bc
  | 1 => .de
  | 2 => .hl
  | _ => .sp

/-- Table `rp2` of the r16 operand code, field p (R204). -/
def Reg16.ofRp2 (p : BitVec 2) : Reg16 :=
  match p.toNat with
  | 0 => .bc
  | 1 => .de
  | 2 => .hl
  | _ => .af

/-- The condition code, bits 4:3 of the opcode (R205). -/
def Cond.ofCode (c : BitVec 2) : Cond :=
  match c.toNat with
  | 0 => .nz
  | 1 => .z
  | 2 => .nc
  | _ => .c

/-- The ALU operation, field y (R206). -/
def AluOp.ofCode (y : BitVec 3) : AluOp :=
  match y.toNat with
  | 0 => .add
  | 1 => .adc
  | 2 => .sub
  | 3 => .sbc
  | 4 => .and
  | 5 => .xor
  | 6 => .or
  | _ => .cp

/-- The rotate or shift operation, field y of op2 when x = 0 (R207). -/
def ShiftOp.ofCode (y : BitVec 3) : ShiftOp :=
  match y.toNat with
  | 0 => .rlc
  | 1 => .rrc
  | 2 => .rl
  | 3 => .rr
  | 4 => .sla
  | 5 => .sra
  | 6 => .swap
  | _ => .srl

/-- Field x of an opcode byte (R202). -/
def fieldX (b : Byte) : BitVec 2 := b.extractLsb' 6 2

/-- Field y of an opcode byte (R202). -/
def fieldY (b : Byte) : BitVec 3 := b.extractLsb' 3 3

/-- Field z of an opcode byte (R202). -/
def fieldZ (b : Byte) : BitVec 3 := b.extractLsb' 0 3

/-! ### The opcode tables -/

/-- What one entry of the main table needs besides its opcode byte (R201): nothing, one byte, or two bytes with the low
byte first. -/
inductive Row where
  | op (i : Instr)
  | n8 (f : Byte → Instr)
  | n16 (f : Word → Instr)

/-- Row 0x of R209. -/
def mainRow0 : List Row :=
  [.op .nop, .n16 .ld_bc_n16, .op .ld_mbc_a, .op .inc_bc, .op .inc_b, .op .dec_b, .n8 .ld_b_n8, .op .rlca,
   .n16 .ld_ma16_sp, .op .add_hl_bc, .op .ld_a_mbc, .op .dec_bc, .op .inc_c, .op .dec_c, .n8 .ld_c_n8,
   .op .rrca]

/-- Row 1x of R209. -/
def mainRow1 : List Row :=
  [.n8 .stop, .n16 .ld_de_n16, .op .ld_mde_a, .op .inc_de, .op .inc_d, .op .dec_d, .n8 .ld_d_n8, .op .rla,
   .n8 .jr_e8, .op .add_hl_de, .op .ld_a_mde, .op .dec_de, .op .inc_e, .op .dec_e, .n8 .ld_e_n8, .op .rra]

/-- Row 2x of R209. -/
def mainRow2 : List Row :=
  [.n8 .jr_nz_e8, .n16 .ld_hl_n16, .op .ld_mhli_a, .op .inc_hl, .op .inc_h, .op .dec_h, .n8 .ld_h_n8,
   .op .daa, .n8 .jr_z_e8, .op .add_hl_hl, .op .ld_a_mhli, .op .dec_hl, .op .inc_l, .op .dec_l, .n8 .ld_l_n8,
   .op .cpl]

/-- Row 3x of R209. -/
def mainRow3 : List Row :=
  [.n8 .jr_nc_e8, .n16 .ld_sp_n16, .op .ld_mhld_a, .op .inc_sp, .op .inc_mhl, .op .dec_mhl, .n8 .ld_mhl_n8,
   .op .scf, .n8 .jr_c_e8, .op .add_hl_sp, .op .ld_a_mhld, .op .dec_sp, .op .inc_a, .op .dec_a, .n8 .ld_a_n8,
   .op .ccf]

/-- Row 4x of R209. -/
def mainRow4 : List Row :=
  [.op .ld_b_b, .op .ld_b_c, .op .ld_b_d, .op .ld_b_e, .op .ld_b_h, .op .ld_b_l, .op .ld_b_mhl, .op .ld_b_a,
   .op .ld_c_b, .op .ld_c_c, .op .ld_c_d, .op .ld_c_e, .op .ld_c_h, .op .ld_c_l, .op .ld_c_mhl, .op .ld_c_a]

/-- Row 5x of R209. -/
def mainRow5 : List Row :=
  [.op .ld_d_b, .op .ld_d_c, .op .ld_d_d, .op .ld_d_e, .op .ld_d_h, .op .ld_d_l, .op .ld_d_mhl, .op .ld_d_a,
   .op .ld_e_b, .op .ld_e_c, .op .ld_e_d, .op .ld_e_e, .op .ld_e_h, .op .ld_e_l, .op .ld_e_mhl, .op .ld_e_a]

/-- Row 6x of R209. -/
def mainRow6 : List Row :=
  [.op .ld_h_b, .op .ld_h_c, .op .ld_h_d, .op .ld_h_e, .op .ld_h_h, .op .ld_h_l, .op .ld_h_mhl, .op .ld_h_a,
   .op .ld_l_b, .op .ld_l_c, .op .ld_l_d, .op .ld_l_e, .op .ld_l_h, .op .ld_l_l, .op .ld_l_mhl, .op .ld_l_a]

/-- Row 7x of R209. -/
def mainRow7 : List Row :=
  [.op .ld_mhl_b, .op .ld_mhl_c, .op .ld_mhl_d, .op .ld_mhl_e, .op .ld_mhl_h, .op .ld_mhl_l, .op .halt,
   .op .ld_mhl_a, .op .ld_a_b, .op .ld_a_c, .op .ld_a_d, .op .ld_a_e, .op .ld_a_h, .op .ld_a_l,
   .op .ld_a_mhl, .op .ld_a_a]

/-- Row 8x of R209. -/
def mainRow8 : List Row :=
  [.op .add_a_b, .op .add_a_c, .op .add_a_d, .op .add_a_e, .op .add_a_h, .op .add_a_l, .op .add_a_mhl,
   .op .add_a_a, .op .adc_a_b, .op .adc_a_c, .op .adc_a_d, .op .adc_a_e, .op .adc_a_h, .op .adc_a_l,
   .op .adc_a_mhl, .op .adc_a_a]

/-- Row 9x of R209. -/
def mainRow9 : List Row :=
  [.op .sub_b, .op .sub_c, .op .sub_d, .op .sub_e, .op .sub_h, .op .sub_l, .op .sub_mhl, .op .sub_a,
   .op .sbc_a_b, .op .sbc_a_c, .op .sbc_a_d, .op .sbc_a_e, .op .sbc_a_h, .op .sbc_a_l, .op .sbc_a_mhl,
   .op .sbc_a_a]

/-- Row Ax of R209. -/
def mainRowA : List Row :=
  [.op .and_b, .op .and_c, .op .and_d, .op .and_e, .op .and_h, .op .and_l, .op .and_mhl, .op .and_a,
   .op .xor_b, .op .xor_c, .op .xor_d, .op .xor_e, .op .xor_h, .op .xor_l, .op .xor_mhl, .op .xor_a]

/-- Row Bx of R209. -/
def mainRowB : List Row :=
  [.op .or_b, .op .or_c, .op .or_d, .op .or_e, .op .or_h, .op .or_l, .op .or_mhl, .op .or_a, .op .cp_b,
   .op .cp_c, .op .cp_d, .op .cp_e, .op .cp_h, .op .cp_l, .op .cp_mhl, .op .cp_a]

/-- Row Cx of R209. -/
def mainRowC : List Row :=
  [.op .ret_nz, .op .pop_bc, .n16 .jp_nz_a16, .n16 .jp_a16, .n16 .call_nz_a16, .op .push_bc, .n8 .add_a_n8,
   .op .rst_00, .op .ret_z, .op .ret, .n16 .jp_z_a16, .n8 .prefix_cb, .n16 .call_z_a16, .n16 .call_a16,
   .n8 .adc_a_n8, .op .rst_08]

/-- Row Dx of R209. -/
def mainRowD : List Row :=
  [.op .ret_nc, .op .pop_de, .n16 .jp_nc_a16, .op .illegal_d3, .n16 .call_nc_a16, .op .push_de, .n8 .sub_n8,
   .op .rst_10, .op .ret_c, .op .reti, .n16 .jp_c_a16, .op .illegal_db, .n16 .call_c_a16, .op .illegal_dd,
   .n8 .sbc_a_n8, .op .rst_18]

/-- Row Ex of R209. -/
def mainRowE : List Row :=
  [.n8 .ldh_ma8_a, .op .pop_hl, .op .ld_mc_a, .op .illegal_e3, .op .illegal_e4, .op .push_hl, .n8 .and_n8,
   .op .rst_20, .n8 .add_sp_e8, .op .jp_hl, .n16 .ld_ma16_a, .op .illegal_eb, .op .illegal_ec,
   .op .illegal_ed, .n8 .xor_n8, .op .rst_28]

/-- Row Fx of R209. -/
def mainRowF : List Row :=
  [.n8 .ldh_a_ma8, .op .pop_af, .op .ld_a_mc, .op .di, .op .illegal_f4, .op .push_af, .n8 .or_n8,
   .op .rst_30, .n8 .ld_hl_sp_e8, .op .ld_sp_hl, .n16 .ld_a_ma16, .op .ei, .op .illegal_fc, .op .illegal_fd,
   .n8 .cp_n8, .op .rst_38]

/-- The unprefixed table, indexed by the opcode byte (R209, R222). -/
def mainTable : List Row :=
  mainRow0 ++ mainRow1 ++ mainRow2 ++ mainRow3 ++ mainRow4 ++ mainRow5 ++ mainRow6 ++ mainRow7 ++
  mainRow8 ++ mainRow9 ++ mainRowA ++ mainRowB ++ mainRowC ++ mainRowD ++ mainRowE ++ mainRowF

set_option maxRecDepth 4000 in
/-- Every opcode byte has an entry (R213, R442). -/
theorem mainTable_length : mainTable.length = 256 := rfl

/-- The entry of the main table for an opcode byte (R222). -/
def mainEntry (op : Byte) : Row := mainTable[op.toNat]'(mainTable_length ▸ op.isLt)

/-- Row 0x of R210. -/
def cbRow0 : List Instr :=
  [.rlc_b, .rlc_c, .rlc_d, .rlc_e, .rlc_h, .rlc_l, .rlc_mhl, .rlc_a, .rrc_b, .rrc_c, .rrc_d, .rrc_e, .rrc_h,
   .rrc_l, .rrc_mhl, .rrc_a]

/-- Row 1x of R210. -/
def cbRow1 : List Instr :=
  [.rl_b, .rl_c, .rl_d, .rl_e, .rl_h, .rl_l, .rl_mhl, .rl_a, .rr_b, .rr_c, .rr_d, .rr_e, .rr_h, .rr_l,
   .rr_mhl, .rr_a]

/-- Row 2x of R210. -/
def cbRow2 : List Instr :=
  [.sla_b, .sla_c, .sla_d, .sla_e, .sla_h, .sla_l, .sla_mhl, .sla_a, .sra_b, .sra_c, .sra_d, .sra_e, .sra_h,
   .sra_l, .sra_mhl, .sra_a]

/-- Row 3x of R210. -/
def cbRow3 : List Instr :=
  [.swap_b, .swap_c, .swap_d, .swap_e, .swap_h, .swap_l, .swap_mhl, .swap_a, .srl_b, .srl_c, .srl_d, .srl_e,
   .srl_h, .srl_l, .srl_mhl, .srl_a]

/-- Row 4x of R210. -/
def cbRow4 : List Instr :=
  [.bit_0_b, .bit_0_c, .bit_0_d, .bit_0_e, .bit_0_h, .bit_0_l, .bit_0_mhl, .bit_0_a, .bit_1_b, .bit_1_c,
   .bit_1_d, .bit_1_e, .bit_1_h, .bit_1_l, .bit_1_mhl, .bit_1_a]

/-- Row 5x of R210. -/
def cbRow5 : List Instr :=
  [.bit_2_b, .bit_2_c, .bit_2_d, .bit_2_e, .bit_2_h, .bit_2_l, .bit_2_mhl, .bit_2_a, .bit_3_b, .bit_3_c,
   .bit_3_d, .bit_3_e, .bit_3_h, .bit_3_l, .bit_3_mhl, .bit_3_a]

/-- Row 6x of R210. -/
def cbRow6 : List Instr :=
  [.bit_4_b, .bit_4_c, .bit_4_d, .bit_4_e, .bit_4_h, .bit_4_l, .bit_4_mhl, .bit_4_a, .bit_5_b, .bit_5_c,
   .bit_5_d, .bit_5_e, .bit_5_h, .bit_5_l, .bit_5_mhl, .bit_5_a]

/-- Row 7x of R210. -/
def cbRow7 : List Instr :=
  [.bit_6_b, .bit_6_c, .bit_6_d, .bit_6_e, .bit_6_h, .bit_6_l, .bit_6_mhl, .bit_6_a, .bit_7_b, .bit_7_c,
   .bit_7_d, .bit_7_e, .bit_7_h, .bit_7_l, .bit_7_mhl, .bit_7_a]

/-- Row 8x of R210. -/
def cbRow8 : List Instr :=
  [.res_0_b, .res_0_c, .res_0_d, .res_0_e, .res_0_h, .res_0_l, .res_0_mhl, .res_0_a, .res_1_b, .res_1_c,
   .res_1_d, .res_1_e, .res_1_h, .res_1_l, .res_1_mhl, .res_1_a]

/-- Row 9x of R210. -/
def cbRow9 : List Instr :=
  [.res_2_b, .res_2_c, .res_2_d, .res_2_e, .res_2_h, .res_2_l, .res_2_mhl, .res_2_a, .res_3_b, .res_3_c,
   .res_3_d, .res_3_e, .res_3_h, .res_3_l, .res_3_mhl, .res_3_a]

/-- Row Ax of R210. -/
def cbRowA : List Instr :=
  [.res_4_b, .res_4_c, .res_4_d, .res_4_e, .res_4_h, .res_4_l, .res_4_mhl, .res_4_a, .res_5_b, .res_5_c,
   .res_5_d, .res_5_e, .res_5_h, .res_5_l, .res_5_mhl, .res_5_a]

/-- Row Bx of R210. -/
def cbRowB : List Instr :=
  [.res_6_b, .res_6_c, .res_6_d, .res_6_e, .res_6_h, .res_6_l, .res_6_mhl, .res_6_a, .res_7_b, .res_7_c,
   .res_7_d, .res_7_e, .res_7_h, .res_7_l, .res_7_mhl, .res_7_a]

/-- Row Cx of R210. -/
def cbRowC : List Instr :=
  [.set_0_b, .set_0_c, .set_0_d, .set_0_e, .set_0_h, .set_0_l, .set_0_mhl, .set_0_a, .set_1_b, .set_1_c,
   .set_1_d, .set_1_e, .set_1_h, .set_1_l, .set_1_mhl, .set_1_a]

/-- Row Dx of R210. -/
def cbRowD : List Instr :=
  [.set_2_b, .set_2_c, .set_2_d, .set_2_e, .set_2_h, .set_2_l, .set_2_mhl, .set_2_a, .set_3_b, .set_3_c,
   .set_3_d, .set_3_e, .set_3_h, .set_3_l, .set_3_mhl, .set_3_a]

/-- Row Ex of R210. -/
def cbRowE : List Instr :=
  [.set_4_b, .set_4_c, .set_4_d, .set_4_e, .set_4_h, .set_4_l, .set_4_mhl, .set_4_a, .set_5_b, .set_5_c,
   .set_5_d, .set_5_e, .set_5_h, .set_5_l, .set_5_mhl, .set_5_a]

/-- Row Fx of R210. -/
def cbRowF : List Instr :=
  [.set_6_b, .set_6_c, .set_6_d, .set_6_e, .set_6_h, .set_6_l, .set_6_mhl, .set_6_a, .set_7_b, .set_7_c,
   .set_7_d, .set_7_e, .set_7_h, .set_7_l, .set_7_mhl, .set_7_a]

/-- The prefixed table, indexed by op2 (R210, R222). -/
def cbTable : List Instr :=
  cbRow0 ++ cbRow1 ++ cbRow2 ++ cbRow3 ++ cbRow4 ++ cbRow5 ++ cbRow6 ++ cbRow7 ++
  cbRow8 ++ cbRow9 ++ cbRowA ++ cbRowB ++ cbRowC ++ cbRowD ++ cbRowE ++ cbRowF

set_option maxRecDepth 4000 in
/-- Every op2 has an entry (R207, R213). -/
theorem cbTable_length : cbTable.length = 256 := rfl

/-- The instruction of the prefixed table for op2 (R222). -/
def cbInstr (op2 : Byte) : Instr := cbTable[op2.toNat]'(cbTable_length ▸ op2.isLt)

/-- The instruction of an opcode byte whose immediate bytes are `n` (low byte first); for 0xCB the low byte of `n` is op2
and the instruction is the prefix row's (R393). -/
def opInstr (op : Byte) (n : Word) : Instr :=
  match mainEntry op with
  | .op i => i
  | .n8 f => f (loByte n)
  | .n16 f => f n

/-! ### The decoder -/

/-- Why a byte list is not an instruction. All 256 opcode bytes and all 256 bytes after 0xCB are bound (R213, R442), so
a list can only be too short. -/
inductive DecodeError where
  /-- There is no opcode byte. -/
  | noOpcode
  /-- The opcode's immediate bytes, or the byte after 0xCB, are missing. -/
  | truncated (op : Byte)
  deriving DecidableEq, Repr

/-- How many bytes the instruction with this first byte has (R200, R209). -/
def instrLength (op : Byte) : Nat :=
  match mainEntry op with
  | .op _ => 1
  | .n8 _ => 2
  | .n16 _ => 3

/-- The main table's row for a byte list and the bytes after the instruction (R201, R208). -/
def decodeRow (bytes : List Byte) : Except DecodeError (Instr × List Byte) :=
  match bytes with
  | [] => .error .noOpcode
  | op :: rest =>
    match mainEntry op, rest with
    | .op i, rest => .ok (i, rest)
    | .n8 f, n :: rest => .ok (f n, rest)
    | .n16 f, lo :: hi :: rest => .ok (f (mkWord hi lo), rest)
    | _, _ => .error (.truncated op)

/-- The second table resolves the prefix (R214, R220): `0xCB, op2` is the prefixed table's instruction. -/
def resolvePrefix (i : Instr) : Instr :=
  match i with
  | .prefix_cb op2 => cbInstr op2
  | i => i

/-- Decoding (R220): the instruction a byte list starts with, and the bytes after it. -/
def decode (bytes : List Byte) : Except DecodeError (Instr × List Byte) :=
  match decodeRow bytes with
  | .ok (i, rest) => .ok (resolvePrefix i, rest)
  | .error e => .error e

/-! ### The words of the opcode table -/

/-- The bytes of a word of `opcode_table.json`, the first at the lowest address, with zeros above the row's bits. A row of
16 bits is written `0xCBnn` in the table, so there the prefix is bits 15:8; every other word has its first byte in bits
7:0 (log entry 13). -/
def tableBytes (nbits w : Nat) : List Byte :=
  if nbits = 16 ∧ w / 256 % 256 = 0xCB then [0xCB#8, BitVec.ofNat 8 w, 0#8]
  else [BitVec.ofNat 8 w, BitVec.ofNat 8 (w / 256), BitVec.ofNat 8 (w / 65536)]

/-- The instruction read from a word of `opcode_table.json`. A row of 8 bits is a row of the main table, the prefix row
among them (log entry 13). -/
def decodeTableWord (nbits w : Nat) : Option Instr :=
  match (if nbits ≤ 8 then decodeRow (tableBytes nbits w) else decode (tableBytes nbits w)) with
  | .ok (i, _) => some i
  | .error _ => none

/-! ### The encoder -/

/-- The bytes of an instruction, in address order (R201, R208–R210). -/
def encode (i : Instr) : List Byte :=
  match i with
  | .nop => [0x00#8]
  | .ld_bc_n16 n => [0x01#8, loByte n, hiByte n]
  | .ld_mbc_a => [0x02#8]
  | .inc_bc => [0x03#8]
  | .inc_b => [0x04#8]
  | .dec_b => [0x05#8]
  | .ld_b_n8 n => [0x06#8, n]
  | .rlca => [0x07#8]
  | .ld_ma16_sp n => [0x08#8, loByte n, hiByte n]
  | .add_hl_bc => [0x09#8]
  | .ld_a_mbc => [0x0A#8]
  | .dec_bc => [0x0B#8]
  | .inc_c => [0x0C#8]
  | .dec_c => [0x0D#8]
  | .ld_c_n8 n => [0x0E#8, n]
  | .rrca => [0x0F#8]
  | .stop n => [0x10#8, n]
  | .ld_de_n16 n => [0x11#8, loByte n, hiByte n]
  | .ld_mde_a => [0x12#8]
  | .inc_de => [0x13#8]
  | .inc_d => [0x14#8]
  | .dec_d => [0x15#8]
  | .ld_d_n8 n => [0x16#8, n]
  | .rla => [0x17#8]
  | .jr_e8 e => [0x18#8, e]
  | .add_hl_de => [0x19#8]
  | .ld_a_mde => [0x1A#8]
  | .dec_de => [0x1B#8]
  | .inc_e => [0x1C#8]
  | .dec_e => [0x1D#8]
  | .ld_e_n8 n => [0x1E#8, n]
  | .rra => [0x1F#8]
  | .jr_nz_e8 e => [0x20#8, e]
  | .ld_hl_n16 n => [0x21#8, loByte n, hiByte n]
  | .ld_mhli_a => [0x22#8]
  | .inc_hl => [0x23#8]
  | .inc_h => [0x24#8]
  | .dec_h => [0x25#8]
  | .ld_h_n8 n => [0x26#8, n]
  | .daa => [0x27#8]
  | .jr_z_e8 e => [0x28#8, e]
  | .add_hl_hl => [0x29#8]
  | .ld_a_mhli => [0x2A#8]
  | .dec_hl => [0x2B#8]
  | .inc_l => [0x2C#8]
  | .dec_l => [0x2D#8]
  | .ld_l_n8 n => [0x2E#8, n]
  | .cpl => [0x2F#8]
  | .jr_nc_e8 e => [0x30#8, e]
  | .ld_sp_n16 n => [0x31#8, loByte n, hiByte n]
  | .ld_mhld_a => [0x32#8]
  | .inc_sp => [0x33#8]
  | .inc_mhl => [0x34#8]
  | .dec_mhl => [0x35#8]
  | .ld_mhl_n8 n => [0x36#8, n]
  | .scf => [0x37#8]
  | .jr_c_e8 e => [0x38#8, e]
  | .add_hl_sp => [0x39#8]
  | .ld_a_mhld => [0x3A#8]
  | .dec_sp => [0x3B#8]
  | .inc_a => [0x3C#8]
  | .dec_a => [0x3D#8]
  | .ld_a_n8 n => [0x3E#8, n]
  | .ccf => [0x3F#8]
  | .ld_b_b => [0x40#8]
  | .ld_b_c => [0x41#8]
  | .ld_b_d => [0x42#8]
  | .ld_b_e => [0x43#8]
  | .ld_b_h => [0x44#8]
  | .ld_b_l => [0x45#8]
  | .ld_b_mhl => [0x46#8]
  | .ld_b_a => [0x47#8]
  | .ld_c_b => [0x48#8]
  | .ld_c_c => [0x49#8]
  | .ld_c_d => [0x4A#8]
  | .ld_c_e => [0x4B#8]
  | .ld_c_h => [0x4C#8]
  | .ld_c_l => [0x4D#8]
  | .ld_c_mhl => [0x4E#8]
  | .ld_c_a => [0x4F#8]
  | .ld_d_b => [0x50#8]
  | .ld_d_c => [0x51#8]
  | .ld_d_d => [0x52#8]
  | .ld_d_e => [0x53#8]
  | .ld_d_h => [0x54#8]
  | .ld_d_l => [0x55#8]
  | .ld_d_mhl => [0x56#8]
  | .ld_d_a => [0x57#8]
  | .ld_e_b => [0x58#8]
  | .ld_e_c => [0x59#8]
  | .ld_e_d => [0x5A#8]
  | .ld_e_e => [0x5B#8]
  | .ld_e_h => [0x5C#8]
  | .ld_e_l => [0x5D#8]
  | .ld_e_mhl => [0x5E#8]
  | .ld_e_a => [0x5F#8]
  | .ld_h_b => [0x60#8]
  | .ld_h_c => [0x61#8]
  | .ld_h_d => [0x62#8]
  | .ld_h_e => [0x63#8]
  | .ld_h_h => [0x64#8]
  | .ld_h_l => [0x65#8]
  | .ld_h_mhl => [0x66#8]
  | .ld_h_a => [0x67#8]
  | .ld_l_b => [0x68#8]
  | .ld_l_c => [0x69#8]
  | .ld_l_d => [0x6A#8]
  | .ld_l_e => [0x6B#8]
  | .ld_l_h => [0x6C#8]
  | .ld_l_l => [0x6D#8]
  | .ld_l_mhl => [0x6E#8]
  | .ld_l_a => [0x6F#8]
  | .ld_mhl_b => [0x70#8]
  | .ld_mhl_c => [0x71#8]
  | .ld_mhl_d => [0x72#8]
  | .ld_mhl_e => [0x73#8]
  | .ld_mhl_h => [0x74#8]
  | .ld_mhl_l => [0x75#8]
  | .halt => [0x76#8]
  | .ld_mhl_a => [0x77#8]
  | .ld_a_b => [0x78#8]
  | .ld_a_c => [0x79#8]
  | .ld_a_d => [0x7A#8]
  | .ld_a_e => [0x7B#8]
  | .ld_a_h => [0x7C#8]
  | .ld_a_l => [0x7D#8]
  | .ld_a_mhl => [0x7E#8]
  | .ld_a_a => [0x7F#8]
  | .add_a_b => [0x80#8]
  | .add_a_c => [0x81#8]
  | .add_a_d => [0x82#8]
  | .add_a_e => [0x83#8]
  | .add_a_h => [0x84#8]
  | .add_a_l => [0x85#8]
  | .add_a_mhl => [0x86#8]
  | .add_a_a => [0x87#8]
  | .adc_a_b => [0x88#8]
  | .adc_a_c => [0x89#8]
  | .adc_a_d => [0x8A#8]
  | .adc_a_e => [0x8B#8]
  | .adc_a_h => [0x8C#8]
  | .adc_a_l => [0x8D#8]
  | .adc_a_mhl => [0x8E#8]
  | .adc_a_a => [0x8F#8]
  | .sub_b => [0x90#8]
  | .sub_c => [0x91#8]
  | .sub_d => [0x92#8]
  | .sub_e => [0x93#8]
  | .sub_h => [0x94#8]
  | .sub_l => [0x95#8]
  | .sub_mhl => [0x96#8]
  | .sub_a => [0x97#8]
  | .sbc_a_b => [0x98#8]
  | .sbc_a_c => [0x99#8]
  | .sbc_a_d => [0x9A#8]
  | .sbc_a_e => [0x9B#8]
  | .sbc_a_h => [0x9C#8]
  | .sbc_a_l => [0x9D#8]
  | .sbc_a_mhl => [0x9E#8]
  | .sbc_a_a => [0x9F#8]
  | .and_b => [0xA0#8]
  | .and_c => [0xA1#8]
  | .and_d => [0xA2#8]
  | .and_e => [0xA3#8]
  | .and_h => [0xA4#8]
  | .and_l => [0xA5#8]
  | .and_mhl => [0xA6#8]
  | .and_a => [0xA7#8]
  | .xor_b => [0xA8#8]
  | .xor_c => [0xA9#8]
  | .xor_d => [0xAA#8]
  | .xor_e => [0xAB#8]
  | .xor_h => [0xAC#8]
  | .xor_l => [0xAD#8]
  | .xor_mhl => [0xAE#8]
  | .xor_a => [0xAF#8]
  | .or_b => [0xB0#8]
  | .or_c => [0xB1#8]
  | .or_d => [0xB2#8]
  | .or_e => [0xB3#8]
  | .or_h => [0xB4#8]
  | .or_l => [0xB5#8]
  | .or_mhl => [0xB6#8]
  | .or_a => [0xB7#8]
  | .cp_b => [0xB8#8]
  | .cp_c => [0xB9#8]
  | .cp_d => [0xBA#8]
  | .cp_e => [0xBB#8]
  | .cp_h => [0xBC#8]
  | .cp_l => [0xBD#8]
  | .cp_mhl => [0xBE#8]
  | .cp_a => [0xBF#8]
  | .ret_nz => [0xC0#8]
  | .pop_bc => [0xC1#8]
  | .jp_nz_a16 n => [0xC2#8, loByte n, hiByte n]
  | .jp_a16 n => [0xC3#8, loByte n, hiByte n]
  | .call_nz_a16 n => [0xC4#8, loByte n, hiByte n]
  | .push_bc => [0xC5#8]
  | .add_a_n8 n => [0xC6#8, n]
  | .rst_00 => [0xC7#8]
  | .ret_z => [0xC8#8]
  | .ret => [0xC9#8]
  | .jp_z_a16 n => [0xCA#8, loByte n, hiByte n]
  | .prefix_cb op2 => [0xCB#8, op2]
  | .call_z_a16 n => [0xCC#8, loByte n, hiByte n]
  | .call_a16 n => [0xCD#8, loByte n, hiByte n]
  | .adc_a_n8 n => [0xCE#8, n]
  | .rst_08 => [0xCF#8]
  | .ret_nc => [0xD0#8]
  | .pop_de => [0xD1#8]
  | .jp_nc_a16 n => [0xD2#8, loByte n, hiByte n]
  | .illegal_d3 => [0xD3#8]
  | .call_nc_a16 n => [0xD4#8, loByte n, hiByte n]
  | .push_de => [0xD5#8]
  | .sub_n8 n => [0xD6#8, n]
  | .rst_10 => [0xD7#8]
  | .ret_c => [0xD8#8]
  | .reti => [0xD9#8]
  | .jp_c_a16 n => [0xDA#8, loByte n, hiByte n]
  | .illegal_db => [0xDB#8]
  | .call_c_a16 n => [0xDC#8, loByte n, hiByte n]
  | .illegal_dd => [0xDD#8]
  | .sbc_a_n8 n => [0xDE#8, n]
  | .rst_18 => [0xDF#8]
  | .ldh_ma8_a n => [0xE0#8, n]
  | .pop_hl => [0xE1#8]
  | .ld_mc_a => [0xE2#8]
  | .illegal_e3 => [0xE3#8]
  | .illegal_e4 => [0xE4#8]
  | .push_hl => [0xE5#8]
  | .and_n8 n => [0xE6#8, n]
  | .rst_20 => [0xE7#8]
  | .add_sp_e8 e => [0xE8#8, e]
  | .jp_hl => [0xE9#8]
  | .ld_ma16_a n => [0xEA#8, loByte n, hiByte n]
  | .illegal_eb => [0xEB#8]
  | .illegal_ec => [0xEC#8]
  | .illegal_ed => [0xED#8]
  | .xor_n8 n => [0xEE#8, n]
  | .rst_28 => [0xEF#8]
  | .ldh_a_ma8 n => [0xF0#8, n]
  | .pop_af => [0xF1#8]
  | .ld_a_mc => [0xF2#8]
  | .di => [0xF3#8]
  | .illegal_f4 => [0xF4#8]
  | .push_af => [0xF5#8]
  | .or_n8 n => [0xF6#8, n]
  | .rst_30 => [0xF7#8]
  | .ld_hl_sp_e8 e => [0xF8#8, e]
  | .ld_sp_hl => [0xF9#8]
  | .ld_a_ma16 n => [0xFA#8, loByte n, hiByte n]
  | .ei => [0xFB#8]
  | .illegal_fc => [0xFC#8]
  | .illegal_fd => [0xFD#8]
  | .cp_n8 n => [0xFE#8, n]
  | .rst_38 => [0xFF#8]
  | .rlc_b => [0xCB#8, 0x00#8]
  | .rlc_c => [0xCB#8, 0x01#8]
  | .rlc_d => [0xCB#8, 0x02#8]
  | .rlc_e => [0xCB#8, 0x03#8]
  | .rlc_h => [0xCB#8, 0x04#8]
  | .rlc_l => [0xCB#8, 0x05#8]
  | .rlc_mhl => [0xCB#8, 0x06#8]
  | .rlc_a => [0xCB#8, 0x07#8]
  | .rrc_b => [0xCB#8, 0x08#8]
  | .rrc_c => [0xCB#8, 0x09#8]
  | .rrc_d => [0xCB#8, 0x0A#8]
  | .rrc_e => [0xCB#8, 0x0B#8]
  | .rrc_h => [0xCB#8, 0x0C#8]
  | .rrc_l => [0xCB#8, 0x0D#8]
  | .rrc_mhl => [0xCB#8, 0x0E#8]
  | .rrc_a => [0xCB#8, 0x0F#8]
  | .rl_b => [0xCB#8, 0x10#8]
  | .rl_c => [0xCB#8, 0x11#8]
  | .rl_d => [0xCB#8, 0x12#8]
  | .rl_e => [0xCB#8, 0x13#8]
  | .rl_h => [0xCB#8, 0x14#8]
  | .rl_l => [0xCB#8, 0x15#8]
  | .rl_mhl => [0xCB#8, 0x16#8]
  | .rl_a => [0xCB#8, 0x17#8]
  | .rr_b => [0xCB#8, 0x18#8]
  | .rr_c => [0xCB#8, 0x19#8]
  | .rr_d => [0xCB#8, 0x1A#8]
  | .rr_e => [0xCB#8, 0x1B#8]
  | .rr_h => [0xCB#8, 0x1C#8]
  | .rr_l => [0xCB#8, 0x1D#8]
  | .rr_mhl => [0xCB#8, 0x1E#8]
  | .rr_a => [0xCB#8, 0x1F#8]
  | .sla_b => [0xCB#8, 0x20#8]
  | .sla_c => [0xCB#8, 0x21#8]
  | .sla_d => [0xCB#8, 0x22#8]
  | .sla_e => [0xCB#8, 0x23#8]
  | .sla_h => [0xCB#8, 0x24#8]
  | .sla_l => [0xCB#8, 0x25#8]
  | .sla_mhl => [0xCB#8, 0x26#8]
  | .sla_a => [0xCB#8, 0x27#8]
  | .sra_b => [0xCB#8, 0x28#8]
  | .sra_c => [0xCB#8, 0x29#8]
  | .sra_d => [0xCB#8, 0x2A#8]
  | .sra_e => [0xCB#8, 0x2B#8]
  | .sra_h => [0xCB#8, 0x2C#8]
  | .sra_l => [0xCB#8, 0x2D#8]
  | .sra_mhl => [0xCB#8, 0x2E#8]
  | .sra_a => [0xCB#8, 0x2F#8]
  | .swap_b => [0xCB#8, 0x30#8]
  | .swap_c => [0xCB#8, 0x31#8]
  | .swap_d => [0xCB#8, 0x32#8]
  | .swap_e => [0xCB#8, 0x33#8]
  | .swap_h => [0xCB#8, 0x34#8]
  | .swap_l => [0xCB#8, 0x35#8]
  | .swap_mhl => [0xCB#8, 0x36#8]
  | .swap_a => [0xCB#8, 0x37#8]
  | .srl_b => [0xCB#8, 0x38#8]
  | .srl_c => [0xCB#8, 0x39#8]
  | .srl_d => [0xCB#8, 0x3A#8]
  | .srl_e => [0xCB#8, 0x3B#8]
  | .srl_h => [0xCB#8, 0x3C#8]
  | .srl_l => [0xCB#8, 0x3D#8]
  | .srl_mhl => [0xCB#8, 0x3E#8]
  | .srl_a => [0xCB#8, 0x3F#8]
  | .bit_0_b => [0xCB#8, 0x40#8]
  | .bit_0_c => [0xCB#8, 0x41#8]
  | .bit_0_d => [0xCB#8, 0x42#8]
  | .bit_0_e => [0xCB#8, 0x43#8]
  | .bit_0_h => [0xCB#8, 0x44#8]
  | .bit_0_l => [0xCB#8, 0x45#8]
  | .bit_0_mhl => [0xCB#8, 0x46#8]
  | .bit_0_a => [0xCB#8, 0x47#8]
  | .bit_1_b => [0xCB#8, 0x48#8]
  | .bit_1_c => [0xCB#8, 0x49#8]
  | .bit_1_d => [0xCB#8, 0x4A#8]
  | .bit_1_e => [0xCB#8, 0x4B#8]
  | .bit_1_h => [0xCB#8, 0x4C#8]
  | .bit_1_l => [0xCB#8, 0x4D#8]
  | .bit_1_mhl => [0xCB#8, 0x4E#8]
  | .bit_1_a => [0xCB#8, 0x4F#8]
  | .bit_2_b => [0xCB#8, 0x50#8]
  | .bit_2_c => [0xCB#8, 0x51#8]
  | .bit_2_d => [0xCB#8, 0x52#8]
  | .bit_2_e => [0xCB#8, 0x53#8]
  | .bit_2_h => [0xCB#8, 0x54#8]
  | .bit_2_l => [0xCB#8, 0x55#8]
  | .bit_2_mhl => [0xCB#8, 0x56#8]
  | .bit_2_a => [0xCB#8, 0x57#8]
  | .bit_3_b => [0xCB#8, 0x58#8]
  | .bit_3_c => [0xCB#8, 0x59#8]
  | .bit_3_d => [0xCB#8, 0x5A#8]
  | .bit_3_e => [0xCB#8, 0x5B#8]
  | .bit_3_h => [0xCB#8, 0x5C#8]
  | .bit_3_l => [0xCB#8, 0x5D#8]
  | .bit_3_mhl => [0xCB#8, 0x5E#8]
  | .bit_3_a => [0xCB#8, 0x5F#8]
  | .bit_4_b => [0xCB#8, 0x60#8]
  | .bit_4_c => [0xCB#8, 0x61#8]
  | .bit_4_d => [0xCB#8, 0x62#8]
  | .bit_4_e => [0xCB#8, 0x63#8]
  | .bit_4_h => [0xCB#8, 0x64#8]
  | .bit_4_l => [0xCB#8, 0x65#8]
  | .bit_4_mhl => [0xCB#8, 0x66#8]
  | .bit_4_a => [0xCB#8, 0x67#8]
  | .bit_5_b => [0xCB#8, 0x68#8]
  | .bit_5_c => [0xCB#8, 0x69#8]
  | .bit_5_d => [0xCB#8, 0x6A#8]
  | .bit_5_e => [0xCB#8, 0x6B#8]
  | .bit_5_h => [0xCB#8, 0x6C#8]
  | .bit_5_l => [0xCB#8, 0x6D#8]
  | .bit_5_mhl => [0xCB#8, 0x6E#8]
  | .bit_5_a => [0xCB#8, 0x6F#8]
  | .bit_6_b => [0xCB#8, 0x70#8]
  | .bit_6_c => [0xCB#8, 0x71#8]
  | .bit_6_d => [0xCB#8, 0x72#8]
  | .bit_6_e => [0xCB#8, 0x73#8]
  | .bit_6_h => [0xCB#8, 0x74#8]
  | .bit_6_l => [0xCB#8, 0x75#8]
  | .bit_6_mhl => [0xCB#8, 0x76#8]
  | .bit_6_a => [0xCB#8, 0x77#8]
  | .bit_7_b => [0xCB#8, 0x78#8]
  | .bit_7_c => [0xCB#8, 0x79#8]
  | .bit_7_d => [0xCB#8, 0x7A#8]
  | .bit_7_e => [0xCB#8, 0x7B#8]
  | .bit_7_h => [0xCB#8, 0x7C#8]
  | .bit_7_l => [0xCB#8, 0x7D#8]
  | .bit_7_mhl => [0xCB#8, 0x7E#8]
  | .bit_7_a => [0xCB#8, 0x7F#8]
  | .res_0_b => [0xCB#8, 0x80#8]
  | .res_0_c => [0xCB#8, 0x81#8]
  | .res_0_d => [0xCB#8, 0x82#8]
  | .res_0_e => [0xCB#8, 0x83#8]
  | .res_0_h => [0xCB#8, 0x84#8]
  | .res_0_l => [0xCB#8, 0x85#8]
  | .res_0_mhl => [0xCB#8, 0x86#8]
  | .res_0_a => [0xCB#8, 0x87#8]
  | .res_1_b => [0xCB#8, 0x88#8]
  | .res_1_c => [0xCB#8, 0x89#8]
  | .res_1_d => [0xCB#8, 0x8A#8]
  | .res_1_e => [0xCB#8, 0x8B#8]
  | .res_1_h => [0xCB#8, 0x8C#8]
  | .res_1_l => [0xCB#8, 0x8D#8]
  | .res_1_mhl => [0xCB#8, 0x8E#8]
  | .res_1_a => [0xCB#8, 0x8F#8]
  | .res_2_b => [0xCB#8, 0x90#8]
  | .res_2_c => [0xCB#8, 0x91#8]
  | .res_2_d => [0xCB#8, 0x92#8]
  | .res_2_e => [0xCB#8, 0x93#8]
  | .res_2_h => [0xCB#8, 0x94#8]
  | .res_2_l => [0xCB#8, 0x95#8]
  | .res_2_mhl => [0xCB#8, 0x96#8]
  | .res_2_a => [0xCB#8, 0x97#8]
  | .res_3_b => [0xCB#8, 0x98#8]
  | .res_3_c => [0xCB#8, 0x99#8]
  | .res_3_d => [0xCB#8, 0x9A#8]
  | .res_3_e => [0xCB#8, 0x9B#8]
  | .res_3_h => [0xCB#8, 0x9C#8]
  | .res_3_l => [0xCB#8, 0x9D#8]
  | .res_3_mhl => [0xCB#8, 0x9E#8]
  | .res_3_a => [0xCB#8, 0x9F#8]
  | .res_4_b => [0xCB#8, 0xA0#8]
  | .res_4_c => [0xCB#8, 0xA1#8]
  | .res_4_d => [0xCB#8, 0xA2#8]
  | .res_4_e => [0xCB#8, 0xA3#8]
  | .res_4_h => [0xCB#8, 0xA4#8]
  | .res_4_l => [0xCB#8, 0xA5#8]
  | .res_4_mhl => [0xCB#8, 0xA6#8]
  | .res_4_a => [0xCB#8, 0xA7#8]
  | .res_5_b => [0xCB#8, 0xA8#8]
  | .res_5_c => [0xCB#8, 0xA9#8]
  | .res_5_d => [0xCB#8, 0xAA#8]
  | .res_5_e => [0xCB#8, 0xAB#8]
  | .res_5_h => [0xCB#8, 0xAC#8]
  | .res_5_l => [0xCB#8, 0xAD#8]
  | .res_5_mhl => [0xCB#8, 0xAE#8]
  | .res_5_a => [0xCB#8, 0xAF#8]
  | .res_6_b => [0xCB#8, 0xB0#8]
  | .res_6_c => [0xCB#8, 0xB1#8]
  | .res_6_d => [0xCB#8, 0xB2#8]
  | .res_6_e => [0xCB#8, 0xB3#8]
  | .res_6_h => [0xCB#8, 0xB4#8]
  | .res_6_l => [0xCB#8, 0xB5#8]
  | .res_6_mhl => [0xCB#8, 0xB6#8]
  | .res_6_a => [0xCB#8, 0xB7#8]
  | .res_7_b => [0xCB#8, 0xB8#8]
  | .res_7_c => [0xCB#8, 0xB9#8]
  | .res_7_d => [0xCB#8, 0xBA#8]
  | .res_7_e => [0xCB#8, 0xBB#8]
  | .res_7_h => [0xCB#8, 0xBC#8]
  | .res_7_l => [0xCB#8, 0xBD#8]
  | .res_7_mhl => [0xCB#8, 0xBE#8]
  | .res_7_a => [0xCB#8, 0xBF#8]
  | .set_0_b => [0xCB#8, 0xC0#8]
  | .set_0_c => [0xCB#8, 0xC1#8]
  | .set_0_d => [0xCB#8, 0xC2#8]
  | .set_0_e => [0xCB#8, 0xC3#8]
  | .set_0_h => [0xCB#8, 0xC4#8]
  | .set_0_l => [0xCB#8, 0xC5#8]
  | .set_0_mhl => [0xCB#8, 0xC6#8]
  | .set_0_a => [0xCB#8, 0xC7#8]
  | .set_1_b => [0xCB#8, 0xC8#8]
  | .set_1_c => [0xCB#8, 0xC9#8]
  | .set_1_d => [0xCB#8, 0xCA#8]
  | .set_1_e => [0xCB#8, 0xCB#8]
  | .set_1_h => [0xCB#8, 0xCC#8]
  | .set_1_l => [0xCB#8, 0xCD#8]
  | .set_1_mhl => [0xCB#8, 0xCE#8]
  | .set_1_a => [0xCB#8, 0xCF#8]
  | .set_2_b => [0xCB#8, 0xD0#8]
  | .set_2_c => [0xCB#8, 0xD1#8]
  | .set_2_d => [0xCB#8, 0xD2#8]
  | .set_2_e => [0xCB#8, 0xD3#8]
  | .set_2_h => [0xCB#8, 0xD4#8]
  | .set_2_l => [0xCB#8, 0xD5#8]
  | .set_2_mhl => [0xCB#8, 0xD6#8]
  | .set_2_a => [0xCB#8, 0xD7#8]
  | .set_3_b => [0xCB#8, 0xD8#8]
  | .set_3_c => [0xCB#8, 0xD9#8]
  | .set_3_d => [0xCB#8, 0xDA#8]
  | .set_3_e => [0xCB#8, 0xDB#8]
  | .set_3_h => [0xCB#8, 0xDC#8]
  | .set_3_l => [0xCB#8, 0xDD#8]
  | .set_3_mhl => [0xCB#8, 0xDE#8]
  | .set_3_a => [0xCB#8, 0xDF#8]
  | .set_4_b => [0xCB#8, 0xE0#8]
  | .set_4_c => [0xCB#8, 0xE1#8]
  | .set_4_d => [0xCB#8, 0xE2#8]
  | .set_4_e => [0xCB#8, 0xE3#8]
  | .set_4_h => [0xCB#8, 0xE4#8]
  | .set_4_l => [0xCB#8, 0xE5#8]
  | .set_4_mhl => [0xCB#8, 0xE6#8]
  | .set_4_a => [0xCB#8, 0xE7#8]
  | .set_5_b => [0xCB#8, 0xE8#8]
  | .set_5_c => [0xCB#8, 0xE9#8]
  | .set_5_d => [0xCB#8, 0xEA#8]
  | .set_5_e => [0xCB#8, 0xEB#8]
  | .set_5_h => [0xCB#8, 0xEC#8]
  | .set_5_l => [0xCB#8, 0xED#8]
  | .set_5_mhl => [0xCB#8, 0xEE#8]
  | .set_5_a => [0xCB#8, 0xEF#8]
  | .set_6_b => [0xCB#8, 0xF0#8]
  | .set_6_c => [0xCB#8, 0xF1#8]
  | .set_6_d => [0xCB#8, 0xF2#8]
  | .set_6_e => [0xCB#8, 0xF3#8]
  | .set_6_h => [0xCB#8, 0xF4#8]
  | .set_6_l => [0xCB#8, 0xF5#8]
  | .set_6_mhl => [0xCB#8, 0xF6#8]
  | .set_6_a => [0xCB#8, 0xF7#8]
  | .set_7_b => [0xCB#8, 0xF8#8]
  | .set_7_c => [0xCB#8, 0xF9#8]
  | .set_7_d => [0xCB#8, 0xFA#8]
  | .set_7_e => [0xCB#8, 0xFB#8]
  | .set_7_h => [0xCB#8, 0xFC#8]
  | .set_7_l => [0xCB#8, 0xFD#8]
  | .set_7_mhl => [0xCB#8, 0xFE#8]
  | .set_7_a => [0xCB#8, 0xFF#8]

end Sys2Proof
end

