-- ==== Sys2Proof/Config.lean ====
section
/-! DEFINITION. What is fixed for the machine and is no state: the constants of R8 and R16, what a cell that
nothing has written reads as, and the one free value, the byte a peripheral address answers. -/

namespace Sys2Proof.Config

/-- The fixed open-bus sentinel (R16, D5). -/
def openBus : Byte := 0xFF#8

/-- What a cell that is not listed in a memory reads as. DESIGN CHOICE, unsafe (log entry 4): the spec leaves the
power-on contents to the parameter `INIT_MEM` (R70, D16). -/
def unlisted (w : Nat) : BitVec w := 0#w

/-- FREE VALUE: the byte the environment answers to the `n`-th read it serves, at peripheral address `a`
(R116, R505; log entry 8). It has no body: nothing can be proved of its value. -/
opaque envByte : Nat → Word → Byte

/-- Dots of one machine cycle (R8, R410). -/
def dotsPerCycle : Nat := 4

/-- Dots of one scanline (R8, R461). -/
def dotsPerLine : Nat := 456

/-- Lines of one frame (R8, R462). -/
def linesPerFrame : Nat := 154

/-- Bytes of one ROM bank (R8). -/
def romBankSize : Nat := 0x4000

/-- Bytes of one cartridge RAM bank (R8). -/
def ramBankSize : Nat := 0x2000

/-- Bytes of one VRAM bank (R45). -/
def vramBankSize : Nat := 0x2000

/-- Bytes of one WRAM bank (R45). -/
def wramBankSize : Nat := 0x1000

/-- Bytes one OAM DMA transfer copies (R496). -/
def dmaLength : Nat := 160

end Sys2Proof.Config
end

