-- ==== Sys2Proof/Machine/State.lean ====
section
/-! DEFINITION. The state of the CORE as plain data: everything 10_state.md gives it (R30–R71), the reasons a step can
stop, and the state after reset (R70). Three fields are the model's own: `envDraws`, `envWrites` and `external`
(log entries 8, 10 and 9). -/

namespace Sys2Proof.Machine

/-! ### Memories -/

/-- A store of cells of `w` bits: the listed keys strictly rise and no listed value is what an unlisted cell reads as. -/
abbrev Cells (w : Nat) := List (Nat × BitVec w)

/-- A byte memory of the hardware, keyed by the offset in its backing store (R45). -/
abbrev Memory := List Host.Cell

/-! ### The CPU -/

/-- The six 16-bit cells of the register file (R31). -/
structure Regs where
  af : Word
  bc : Word
  de : Word
  hl : Word
  sp : Word
  pc : Word
  deriving DecidableEq, Repr

/-- The pending-EI flag (R41). -/
inductive PendingEI where
  | none | delayEnable | enableNextTick
  deriving DecidableEq, Repr

/-- Why the machine is Faulted; the only reason that occurs is an access outside every range (R441, R443). -/
inductive BusFault where
  /-- `Fault(BusOutOfRange)`: an access to 0xFF71–0xFF7F (R118). -/
  | busOutOfRange
  deriving DecidableEq, Repr

/-- RunState (R42), with what is recorded on the two terminal states (R440, R441). -/
inductive RunState where
  | running
  | halted
  | stopped
  /-- After an illegal opcode, for good; the opcode and the address after it. -/
  | locked (opcode : Byte) (pc : Word)
  /-- After a fatal bus condition, for good; the reason and the address. -/
  | faulted (reason : BusFault) (addr : Word)
  deriving DecidableEq, Repr

/-- The interrupt sources in priority order (R39, R421). -/
inductive Irq where
  | vblank | lcd | timer | serial | joypad
  deriving DecidableEq, Repr

/-! ### The PPU -/

/-- The PPU modes 0, 1, 2 and 3 (R60). -/
inductive PpuMode where
  | hblank | vblank | oamScan | drawing
  deriving DecidableEq, Repr

/-- The OAM scan's micro-state (R61). -/
inductive ScanMicro where
  | readY | compare
  deriving DecidableEq, Repr

/-- A selected object: `(oam_index, y, x, fetched)` (R61). -/
structure ObjEntry where
  oamIndex : Nat
  y : Byte
  x : Byte
  fetched : Bool
  deriving DecidableEq, Repr

/-- Fetcher phases (R62); `push` has no dot of its own (R471). -/
inductive FetchPhase where
  | getTile | getDataLow | getDataHigh | sleep | push
  deriving DecidableEq, Repr

/-- Fetcher micro-steps (R62). -/
inductive FetchMicro where
  | computeAddress | io
  deriving DecidableEq, Repr

/-- The background/window fetcher `bgf` (R62). -/
structure BgFetcher where
  phase : FetchPhase
  micro : FetchMicro
  addr : Word
  tile : Byte
  attr : Byte
  lo : Byte
  hi : Byte
  fetchX : Nat
  windowMode : Bool
  warmup : Bool
  deriving DecidableEq, Repr

/-- The object fetcher `objf` (R62). -/
structure ObjFetcher where
  active : Bool
  obj : ObjEntry
  phase : FetchPhase
  micro : FetchMicro
  addr : Word
  tile : Byte
  attr : Byte
  lo : Byte
  hi : Byte
  deriving DecidableEq, Repr

/-- A pixel of a FIFO (R63). -/
structure Pixel where
  color : BitVec 2
  palette : BitVec 3
  spritePriority : Nat
  bgPriority : Bool
  deriving DecidableEq, Repr

/-- Everything the PPU owns (R45–R58, R60–R66): its memories, its registers and its internal state. -/
structure Ppu where
  vram : Memory
  oam : Memory
  bgPalRam : Memory
  objPalRam : Memory
  framebuffer : Cells 16
  lcdc : Byte
  statSel : BitVec 4
  scy : Byte
  scx : Byte
  ly : Byte
  lyc : Byte
  bgp : Byte
  obp0 : Byte
  obp1 : Byte
  wy : Byte
  wx : Byte
  vbk : BitVec 1
  bcps : Byte
  ocps : Byte
  mode : PpuMode
  dot : Nat
  lx : Nat
  lcdOnPrev : Bool
  scanIndex : Nat
  scanMicro : ScanMicro
  scanY : Byte
  selected : List ObjEntry
  bgf : BgFetcher
  objf : ObjFetcher
  bgFifo : List Pixel
  objFifo : List Pixel
  discard : Nat
  wyTriggered : Bool
  windowLine : Byte
  windowDrawnThisLine : Bool
  statLine : Bool
  deriving DecidableEq, Repr

/-! ### DMA and cartridge -/

/-- The OAM DMA sub-state (R67, R53). -/
structure Dma where
  active : Bool
  delay : Nat
  count : Nat
  src : Word
  sub : Nat
  reg : Byte
  deriving DecidableEq, Repr

/-- The five real-time-clock registers (R69). -/
structure Rtc where
  s : BitVec 6
  m : BitVec 6
  hr : BitVec 5
  dl : Byte
  dh : Byte
  deriving DecidableEq, Repr

/-- The MBC1 control registers; `w` is the width of the ROM-bank register, 5 bits, or 4 bits for MBC1M (R68, R168). -/
structure Mbc1Regs (w : Nat) where
  ramEnable : Bool
  bank1 : BitVec w
  bank2 : BitVec 2
  mode : BitVec 1
  deriving DecidableEq, Repr

/-- The MBC2 control registers (R68). -/
structure Mbc2Regs where
  ramEnable : Bool
  romBank : BitVec 4
  deriving DecidableEq, Repr

/-- The MBC3 control registers and clock; `hasRtc` is fixed by the type byte (R68, R69, R151). -/
structure Mbc3Regs where
  hasRtc : Bool
  ramEnable : Bool
  romBank : BitVec 7
  select : Byte
  latchPrev : Byte
  live : Rtc
  latched : Rtc
  deriving DecidableEq, Repr

/-- The MBC5 control registers; `hasRumble` is fixed by the type byte (R68, R151). -/
structure Mbc5Regs where
  hasRumble : Bool
  ramEnable : Bool
  romBank : BitVec 9
  ramBank : BitVec 4
  rumble : Bool
  deriving DecidableEq, Repr

/-- The variant tag with the variant's control registers (R68). -/
inductive Mbc where
  | noMbc
  | mbc1 (r : Mbc1Regs 5)
  | mbc1m (r : Mbc1Regs 4)
  | mbc2 (r : Mbc2Regs)
  | mbc3 (r : Mbc3Regs)
  | mbc5 (r : Mbc5Regs)
  deriving DecidableEq, Repr

/-- The cartridge (R68): byte `o` of ROM bank `b` is cell `b * 0x4000 + o` of `rom`, byte `o` of RAM bank `b` is cell
`b * 0x2000 + o` of `ram`, and entry `k` of the MBC2 array is cell `k` of `ram`. -/
structure Cart where
  rom : Memory
  romBanks : Nat
  ram : Memory
  ramBanks : Nat
  mbc : Mbc
  deriving DecidableEq, Repr

/-! ### The environment -/

/-- What can happen between two dots (R505, R506, R521). -/
inductive ExternalEvent where
  /-- The timer requests its interrupt: IF bit 2. -/
  | timerRequest
  /-- The serial port requests its interrupt: IF bit 3. -/
  | serialRequest
  /-- The joypad requests its interrupt: IF bit 4. -/
  | joypadRequest
  /-- `RtcAdvance(k)`: `k` seconds of wall-clock time pass (R184). -/
  | rtcAdvance (k : Nat)
  /-- The host reads a bus address (R521). -/
  | hostRead (a : Word)
  /-- The host writes a bus address (R521). -/
  | hostWrite (a : Word) (v : Byte)
  deriving DecidableEq, Repr

/-- The machine. -/
structure State where
  regs : Regs
  ie : Byte
  ifr : BitVec 5
  ime : Bool
  pendingEI : PendingEI
  runState : RunState
  cyclesRemaining : Nat
  colorMode : Bool
  wram : Memory
  hram : Memory
  svbk : BitVec 3
  ppu : Ppu
  dma : Dma
  cart : Cart
  /-- The model's own: how many environment reads have been drawn (log entry 8). -/
  envDraws : Nat
  /-- The model's own: what was handed to the environment, newest first (log entry 10). -/
  envWrites : List (Word × Byte)
  /-- The model's own: the events that happen before each coming dot, the next dot's first (log entry 9). -/
  external : List (List ExternalEvent)
  deriving DecidableEq, Repr

/-- Why a step ends without a state. -/
inductive Fault where
  /-- `Fault(NoHandler)`: raised by `step` when the fetched bytes decode to no instruction. Safe: it never happens
  (R442), because both tables bind every value. The faults of R440 and R441 are states the spec describes and are next
  states whose RunState is `locked` or `faulted` (log entry 11). -/
  | noHandler
  deriving DecidableEq, Repr

/-- Why an instruction has no meaning in the model. -/
inductive Refusal where
  /-- Raised by an arm of `exec` for an instruction that has no meaning yet. Safe: nothing can be proved of its effect. -/
  | notModelled (mnemonic : String)
  deriving DecidableEq, Repr

/-- The outcome of an instruction or a step. -/
abbrev Result := Host.Outcome State Fault Refusal

/-! ### Reset -/

/-- The fetchers as at a mode-3 start (R70, R474); the latches that R474 does not name hold 0 (log entry 14). -/
def BgFetcher.reset : BgFetcher :=
  { phase := .getTile, micro := .computeAddress, addr := 0, tile := 0, attr := 0, lo := 0, hi := 0,
    fetchX := 0, windowMode := false, warmup := true }

/-- The object fetcher at power-on (R70, R474; log entry 14). -/
def ObjFetcher.reset : ObjFetcher :=
  { active := false, obj := ⟨0, 0, 0, false⟩, phase := .getTile, micro := .computeAddress,
    addr := 0, tile := 0, attr := 0, lo := 0, hi := 0 }

/-- The PPU at power-on with empty memories (R70, D55). -/
def Ppu.reset : Ppu :=
  { vram := [], oam := [], bgPalRam := [], objPalRam := [], framebuffer := [],
    lcdc := 0x91, statSel := 0, scy := 0, scx := 0, ly := 0, lyc := 0, bgp := 0xFC, obp0 := 0xFF, obp1 := 0xFF,
    wy := 0, wx := 0, vbk := 0, bcps := 0, ocps := 0,
    mode := .oamScan, dot := 0, lx := 0, lcdOnPrev := true,
    scanIndex := 0, scanMicro := .readY, scanY := 0, selected := [],
    bgf := .reset, objf := .reset, bgFifo := [], objFifo := [], discard := 0,
    wyTriggered := true, windowLine := 0, windowDrawnThisLine := false, statLine := false }

/-- The DMA engine at power-on (R70, D22). -/
def Dma.reset : Dma := { active := false, delay := 0, count := 0, src := 0, sub := 0, reg := 0xFF }

/-- The cartridge built from the image of log entry 1: 32 KiB of zeros, so No-MBC, 2 ROM banks and no RAM. -/
def Cart.reset : Cart := { rom := [], romBanks := 2, ram := [], ramBanks := 0, mbc := .noMbc }

/-- The machine right after reset (R70), for the launch of log entries 1 to 6. -/
def State.reset : State :=
  { regs := { af := 0x0000, bc := 0x0000, de := 0x0000, hl := 0x0000, sp := 0xFFFE, pc := 0x0100 },
    ie := 0x00, ifr := 0x01, ime := false, pendingEI := .none, runState := .running, cyclesRemaining := 0,
    colorMode := false, wram := [], hram := [], svbk := 0, ppu := .reset, dma := .reset, cart := .reset,
    envDraws := 0, envWrites := [], external := [] }

end Sys2Proof.Machine
end

