-- ==== Sys2Proof/Machine/Mem.lean ====
section
/-! DEFINITION. Reading and writing one cell of a sparse store, its canonical form, and the iteration the model uses for
the spec's bounded loops. -/

namespace Sys2Proof.Machine

/-- The value of cell `k`: the listed one, or what an unlisted cell reads as. -/
def Cells.read {w : Nat} (m : Cells w) (k : Nat) : BitVec w :=
  match m with
  | [] => Config.unlisted w
  | (a, v) :: rest => if a = k then v else Cells.read rest k

/-- Cell `k` now holds `v`; the list keeps its canonical form, so the unlisted value is never listed. -/
def Cells.write {w : Nat} (m : Cells w) (k : Nat) (v : BitVec w) : Cells w :=
  match m with
  | [] => if v = Config.unlisted w then [] else [(k, v)]
  | (a, x) :: rest =>
    if k < a then (if v = Config.unlisted w then (a, x) :: rest else (k, v) :: (a, x) :: rest)
    else if k = a then (if v = Config.unlisted w then rest else (k, v) :: rest)
    else (a, x) :: Cells.write rest k v

/-- The canonical form with every key at least `lo`: keys strictly rising, no unlisted value listed. -/
def Cells.wfFrom {w : Nat} (lo : Nat) (m : Cells w) : Bool :=
  match m with
  | [] => true
  | (a, v) :: rest => decide (lo ≤ a) && decide (v ≠ Config.unlisted w) && Cells.wfFrom (a + 1) rest

/-- The canonical form of a store. -/
def Cells.wf {w : Nat} (m : Cells w) : Bool := Cells.wfFrom 0 m

/-- The value of byte `k` of a memory. -/
def Memory.read (m : Memory) (k : Nat) : Byte := Cells.read m k

/-- Byte `k` of a memory now holds `v`. -/
def Memory.write (m : Memory) (k : Nat) (v : Byte) : Memory := Cells.write m k v

/-- The canonical form of a memory. -/
def Memory.wf (m : Memory) : Bool := Cells.wf m

/-- `f` applied `n` times. -/
def iterate {α : Type} (f : α → α) (n : Nat) (x : α) : α :=
  match n with
  | 0 => x
  | n + 1 => iterate f n (f x)

end Sys2Proof.Machine
end

