-- ==== Sys2Proof/Machine/Cart.lean ====
section
/-! DEFINITION. The cartridge: bank masking, the five variants' reads and writes of 0x0000–0x7FFF and 0xA000–0xBFFF
(R153–R195), and the MBC3 real-time clock (R177–R184). -/

namespace Sys2Proof.Machine

/-! ### Banks (R152, R153) -/

/-- Byte `o` of ROM bank `bank`, the bank number masked into range (R153). -/
def Cart.romByte (c : Cart) (bank o : Nat) : Byte :=
  Memory.read c.rom ((bank &&& (c.romBanks - 1)) * Config.romBankSize + o)

/-- The cell of byte `o` of RAM bank `bank`, the bank number masked into range (R153). -/
def Cart.ramCell (c : Cart) (bank o : Nat) : Nat := (bank &&& (c.ramBanks - 1)) * Config.ramBankSize + o

/-- A read of banked cartridge RAM behind an enable gate; with no banks it is open bus (R153, R165, R195). -/
def Cart.ramRead (c : Cart) (enabled : Bool) (bank o : Nat) : Byte :=
  if enabled && c.ramBanks != 0 then Memory.read c.ram (c.ramCell bank o) else Config.openBus

/-- A write of banked cartridge RAM behind an enable gate; with no banks it is dropped (R153, R165, R195). -/
def Cart.ramWrite (c : Cart) (enabled : Bool) (bank o : Nat) (v : Byte) : Cart :=
  if enabled && c.ramBanks != 0 then { c with ram := Memory.write c.ram (c.ramCell bank o) v } else c

/-- The RAM-enable value of MBC1, MBC2 and MBC3: the low nibble is 0xA (R160, R170, R175). -/
def enablesRam (v : Byte) : Bool := (v &&& 0x0F#8) == 0x0A#8

/-- Bank-register value 0 aliases to bank 1 (R161, R168, R170, R176). -/
def zeroToOne {w : Nat} (b : BitVec w) : BitVec w := if b = 0#w then 1#w else b

/-! ### The real-time clock (R181–R184) -/

/-- One second of live time (R182). -/
def Rtc.tick1 (r : Rtc) : Rtc :=
  if r.dh.getLsbD 6 then r else
  let s := r.s + 1
  if s ≠ 60 then { r with s := s } else
  let m := r.m + 1
  if m ≠ 60 then { r with s := 0, m := m } else
  let hr := r.hr + 1
  if hr ≠ 24 then { r with s := 0, m := 0, hr := hr } else
  let day := ((r.dh.extractLsb' 0 1) ++ r.dl).toNat + 1
  let carry := if day = 512 then 0x80#8 else r.dh &&& 0x80#8
  let day' := if day = 512 then 0 else day
  { s := 0, m := 0, hr := 0, dl := BitVec.ofNat 8 day',
    dh := carry ||| (r.dh &&& 0x7E#8) ||| BitVec.ofNat 8 (day' / 256) }

/-- The RTC register a select value names, read with its unused bits 0 (R177, R181). -/
def Rtc.read (r : Rtc) (select : Byte) : Byte :=
  match select.toNat with
  | 0x08 => r.s.setWidth 8
  | 0x09 => r.m.setWidth 8
  | 0x0A => r.hr.setWidth 8
  | 0x0B => r.dl
  | 0x0C => r.dh &&& 0xC1#8
  | _ => Config.openBus

/-- `RtcWrite(select, v)` (R183). -/
def Rtc.write (r : Rtc) (select v : Byte) : Rtc :=
  match select.toNat with
  | 0x08 => { r with s := v.setWidth 6 }
  | 0x09 => { r with m := v.setWidth 6 }
  | 0x0A => { r with hr := v.setWidth 5 }
  | 0x0B => { r with dl := v }
  | 0x0C => { r with dh := v &&& 0xC1#8 }
  | _ => r

/-- The select values of the five RTC registers (R177). -/
def selectsRtc (select : Byte) : Bool := decide (0x08 ≤ select.toNat) && decide (select.toNat ≤ 0x0C)

/-- `RtcAdvance(k)` on a cartridge with a clock; without one nothing happens (R184, R505). -/
def Cart.rtcAdvance (c : Cart) (k : Nat) : Cart :=
  match c.mbc with
  | .mbc3 r => if r.hasRtc then { c with mbc := .mbc3 { r with live := iterate Rtc.tick1 k r.live } } else c
  | _ => c

/-! ### Reads (R106) -/

/-- The bank in 0x0000–0x3FFF of MBC1 and MBC1M, whose secondary register is shifted by the width of the first
(R164, R169). -/
def Mbc1Regs.lowBank {w : Nat} (r : Mbc1Regs w) : Nat := if r.mode = 1#1 then r.bank2.toNat <<< w else 0

/-- The bank in 0x4000–0x7FFF of MBC1 and MBC1M (R164, R169). -/
def Mbc1Regs.highBank {w : Nat} (r : Mbc1Regs w) : Nat := (r.bank2.toNat <<< w) ||| r.bank1.toNat

/-- The RAM bank of MBC1 and MBC1M (R165). -/
def Mbc1Regs.ramBank {w : Nat} (r : Mbc1Regs w) : Nat := if r.mode = 1#1 then r.bank2.toNat else 0

/-- The ROM bank at 0x0000–0x3FFF (R155, R164, R169, R172, R179, R194). -/
def Cart.lowRomBank (c : Cart) : Nat :=
  match c.mbc with
  | .mbc1 r => r.lowBank
  | .mbc1m r => r.lowBank
  | .noMbc | .mbc2 _ | .mbc3 _ | .mbc5 _ => 0

/-- The ROM bank at 0x4000–0x7FFF (R155, R164, R169, R172, R179, R194). -/
def Cart.highRomBank (c : Cart) : Nat :=
  match c.mbc with
  | .noMbc => 1
  | .mbc1 r => r.highBank
  | .mbc1m r => r.highBank
  | .mbc2 r => r.romBank.toNat
  | .mbc3 r => r.romBank.toNat
  | .mbc5 r => r.romBank.toNat

/-- A read of 0x0000–0x7FFF. -/
def Cart.readRom (c : Cart) (a : Word) : Byte :=
  if a.toNat < 0x4000 then c.romByte c.lowRomBank a.toNat else c.romByte c.highRomBank (a.toNat - 0x4000)

/-- A read of 0xA000–0xBFFF (R157, R165, R173, R180, R195). -/
def Cart.readRam (c : Cart) (a : Word) : Byte :=
  let o := a.toNat - 0xA000
  match c.mbc with
  | .noMbc => c.ramRead true 0 o
  | .mbc1 r => c.ramRead r.ramEnable r.ramBank o
  | .mbc1m r => c.ramRead r.ramEnable r.ramBank o
  | .mbc2 r => if r.ramEnable then 0xF0#8 ||| Memory.read c.ram (a.toNat &&& 0x01FF) else Config.openBus
  | .mbc3 r =>
    if r.ramEnable && decide (r.select.toNat ≤ 0x03) then c.ramRead true r.select.toNat o
    else if r.ramEnable && selectsRtc r.select && r.hasRtc then r.latched.read r.select
    else Config.openBus
  | .mbc5 r => c.ramRead r.ramEnable r.ramBank.toNat o

/-- `CartRead(a)` (R106): 0x0000–0x7FFF is ROM, 0xA000–0xBFFF is RAM. -/
def Cart.read (c : Cart) (a : Word) : Byte := if a.toNat < 0x8000 then c.readRom a else c.readRam a

/-! ### Writes (R106) -/

/-- MBC1 and MBC1M control writes (R160–R163, R168): the bank register keeps its own width of `v`. -/
def Mbc1Regs.control {w : Nat} (r : Mbc1Regs w) (a : Word) (v : Byte) : Mbc1Regs w :=
  if a.toNat < 0x2000 then { r with ramEnable := enablesRam v }
  else if a.toNat < 0x4000 then { r with bank1 := zeroToOne (v.setWidth w) }
  else if a.toNat < 0x6000 then { r with bank2 := v.setWidth 2 }
  else { r with mode := v.setWidth 1 }

/-- MBC2 control writes, told apart by address bit 8 (R170, R171). -/
def Mbc2Regs.control (r : Mbc2Regs) (a : Word) (v : Byte) : Mbc2Regs :=
  if 0x4000 ≤ a.toNat then r
  else if a.getLsbD 8 then { r with romBank := zeroToOne (v.setWidth 4) }
  else { r with ramEnable := enablesRam v }

/-- MBC3 control writes; 0x00 then 0x01 to 0x6000–0x7FFF latches the clock (R175–R178). -/
def Mbc3Regs.control (r : Mbc3Regs) (a : Word) (v : Byte) : Mbc3Regs :=
  if a.toNat < 0x2000 then { r with ramEnable := enablesRam v }
  else if a.toNat < 0x4000 then { r with romBank := zeroToOne (v.setWidth 7) }
  else if a.toNat < 0x6000 then { r with select := v }
  else if r.latchPrev = 0x00#8 ∧ v = 0x01#8 ∧ r.hasRtc = true then { r with latched := r.live, latchPrev := v }
  else { r with latchPrev := v }

/-- MBC5 control writes (R190–R193). -/
def Mbc5Regs.control (r : Mbc5Regs) (a : Word) (v : Byte) : Mbc5Regs :=
  if a.toNat < 0x2000 then { r with ramEnable := v == 0x0A#8 }
  else if a.toNat < 0x3000 then { r with romBank := r.romBank.extractLsb' 8 1 ++ v }
  else if a.toNat < 0x4000 then { r with romBank := v.extractLsb' 0 1 ++ r.romBank.extractLsb' 0 8 }
  else if a.toNat < 0x6000 then
    if r.hasRumble then { r with rumble := v.getLsbD 3, ramBank := (v &&& 0x07#8).setWidth 4 }
    else { r with ramBank := v.setWidth 4 }
  else r

/-- A write to 0x0000–0x7FFF: the variant's control registers; ROM never changes (R106, R156). -/
def Cart.writeControl (c : Cart) (a : Word) (v : Byte) : Cart :=
  match c.mbc with
  | .noMbc => c
  | .mbc1 r => { c with mbc := .mbc1 (r.control a v) }
  | .mbc1m r => { c with mbc := .mbc1m (r.control a v) }
  | .mbc2 r => { c with mbc := .mbc2 (r.control a v) }
  | .mbc3 r => { c with mbc := .mbc3 (r.control a v) }
  | .mbc5 r => { c with mbc := .mbc5 (r.control a v) }

/-- A write to 0xA000–0xBFFF (R157, R165, R173, R180, R195). -/
def Cart.writeRam (c : Cart) (a : Word) (v : Byte) : Cart :=
  let o := a.toNat - 0xA000
  match c.mbc with
  | .noMbc => c.ramWrite true 0 o v
  | .mbc1 r => c.ramWrite r.ramEnable r.ramBank o v
  | .mbc1m r => c.ramWrite r.ramEnable r.ramBank o v
  | .mbc2 r =>
    if r.ramEnable then { c with ram := Memory.write c.ram (a.toNat &&& 0x01FF) (v &&& 0x0F#8) } else c
  | .mbc3 r =>
    if r.ramEnable && decide (r.select.toNat ≤ 0x03) then c.ramWrite true r.select.toNat o v
    else if r.ramEnable && selectsRtc r.select && r.hasRtc then
      { c with mbc := .mbc3 { r with live := r.live.write r.select v } }
    else c
  | .mbc5 r => c.ramWrite r.ramEnable r.ramBank.toNat o v

/-- `CartWrite(a, v)` (R106). -/
def Cart.write (c : Cart) (a : Word) (v : Byte) : Cart :=
  if a.toNat < 0x8000 then c.writeControl a v else c.writeRam a v

end Sys2Proof.Machine
end

