-- ==== Sys2Proof/Machine/Ppu.lean ====
section
/-! DEFINITION. The PPU, one dot at a time: the scanline controller (R460–R465), the OAM scan (R463), the mode-3 pixel
pipeline (R470–R489), the STAT line and the requests (R490–R492), and LCD on/off (R494). The PPU touches only what it
owns; what it requests in IF is the second component of its step. -/

namespace Sys2Proof.Machine

/-- STAT bits 1:0 of a mode (R60). -/
def PpuMode.bits (m : PpuMode) : BitVec 2 :=
  match m with
  | .hblank => 0
  | .vblank => 1
  | .oamScan => 2
  | .drawing => 3

/-- OAM byte `k` (R46). -/
def Ppu.oamByte (p : Ppu) (k : Nat) : Byte := Memory.read p.oam k

/-- Byte `o` of VRAM bank `bank` (R45). -/
def Ppu.vramByte (p : Ppu) (bank o : Nat) : Byte := Memory.read p.vram (bank * Config.vramBankSize + o)

/-- VRAM at a PPU-side address (60_exceptions.md: `VRAM[bank][a − 0x8000]`). -/
def Ppu.vramAt (p : Ppu) (bank : Nat) (a : Word) : Byte := p.vramByte bank (a.toNat - 0x8000)

/-- Bit `i` of LCDC (R48). -/
def Ppu.lcdcBit (p : Ppu) (i : Nat) : Bool := p.lcdc.getLsbD i

/-- The object height, LCDC bit 2 (R48). -/
def Ppu.objHeight (p : Ppu) : Nat := if p.lcdcBit 2 then 16 else 8

/-! ### Lines and frames (R462) -/

/-- `BeginLine()` (R462). -/
def Ppu.beginLine (p : Ppu) : Ppu :=
  let newFrame := p.ly == 0#8
  { p with
    wyTriggered := (p.wyTriggered && !newFrame) || p.ly == p.wy
    windowLine := if newFrame then 0 else p.windowLine
    mode := .oamScan, scanIndex := 0, scanMicro := .readY, selected := [], lx := 0
    windowDrawnThisLine := false }

/-- `NextLine()` (R462); the flag is the VBlank request (R490). -/
def Ppu.nextLine (p : Ppu) : Ppu × Bool :=
  let ly := if p.ly.toNat = 153 then 0#8 else p.ly + 1
  let p := { p with ly := ly }
  if ly.toNat = 144 then ({ p with mode := .vblank }, true)
  else if ly.toNat < 144 then (p.beginLine, false)
  else (p, false)

/-! ### OAM scan (R463) -/

/-- Whether the scanned Y byte covers the current line (R463). -/
def Ppu.scanHit (p : Ppu) : Bool :=
  decide (p.scanY.toNat ≤ p.ly.toNat + 16) && decide (p.ly.toNat + 16 < p.scanY.toNat + p.objHeight)

/-- `OamScanDot()` (R463). -/
def Ppu.oamScanDot (p : Ppu) : Ppu :=
  match p.scanMicro with
  | .readY => { p with scanY := p.oamByte (4 * p.scanIndex), scanMicro := .compare }
  | .compare =>
    { p with
      selected :=
        if decide (p.selected.length < 10) && p.scanHit then
          p.selected ++ [⟨p.scanIndex, p.scanY, p.oamByte (4 * p.scanIndex + 1), false⟩]
        else p.selected
      scanIndex := p.scanIndex + 1
      scanMicro := .readY }

/-! ### Start and end of mode 3 -/

/-- `StartMode3()` (R474); the latches it does not name keep their values (log entry 14). -/
def Ppu.startMode3 (p : Ppu) : Ppu :=
  { p with
    mode := .drawing, lx := 0, bgFifo := [], objFifo := []
    bgf := { p.bgf with
      phase := .getTile, micro := .computeAddress, fetchX := 0, windowMode := false, warmup := true }
    objf := { p.objf with active := false }
    discard := p.scx.toNat % 8 }

/-- `EndMode3()` (R487). -/
def Ppu.endMode3 (p : Ppu) : Ppu :=
  { p with
    mode := .hblank
    windowLine := if p.windowDrawnThisLine then p.windowLine + 1 else p.windowLine }

/-! ### Background and window fetcher (R471–R479) -/

/-- The tile-map address of GetTile (R476). -/
def Ppu.tileMapAddress (p : Ppu) : Word :=
  if p.bgf.windowMode then
    let map := if p.lcdcBit 6 then 0x9C00 else 0x9800
    BitVec.ofNat 16 (map + 32 * (p.windowLine.toNat / 8) + p.bgf.fetchX % 32)
  else
    let map := if p.lcdcBit 3 then 0x9C00 else 0x9800
    BitVec.ofNat 16
      (map + 32 * ((p.ly.toNat + p.scy.toNat) % 256 / 8) + (p.scx.toNat / 8 + p.bgf.fetchX) % 32)

/-- The row of the tile the fetcher reads, with the colour-mode vertical flip (R477). -/
def Ppu.bgRow (color : Bool) (p : Ppu) : Nat :=
  let row := if p.bgf.windowMode then p.windowLine.toNat % 8 else (p.ly.toNat + p.scy.toNat) % 8
  if color && p.bgf.attr.getLsbD 6 then 7 - row else row

/-- The address of the tile's first byte, LCDC bit 4 choosing unsigned or signed indexing (R477). -/
def Ppu.tileDataBase (p : Ppu) : Word :=
  if p.lcdcBit 4 then 0x8000#16 + 16#16 * p.bgf.tile.setWidth 16 else 0x9000#16 + 16#16 * sext16 p.bgf.tile

/-- `BgAddress(phase)` (R476, R477). -/
def Ppu.bgAddress (color : Bool) (p : Ppu) : Word :=
  match p.bgf.phase with
  | .getTile => p.tileMapAddress
  | .getDataLow => p.tileDataBase + BitVec.ofNat 16 (2 * p.bgRow color)
  | .getDataHigh => p.tileDataBase + BitVec.ofNat 16 (2 * p.bgRow color + 1)
  | .sleep | .push => p.bgf.addr

/-- The VRAM bank of the fetched tile's data: attribute bit 3 in colour mode (R478). -/
def Ppu.bgDataBank (color : Bool) (p : Ppu) : Nat := bitOf (color && p.bgf.attr.getLsbD 3)

/-- `BgIo(phase)` (R478). -/
def Ppu.bgIo (color : Bool) (p : Ppu) : BgFetcher :=
  match p.bgf.phase with
  | .getTile =>
    { p.bgf with tile := p.vramAt 0 p.bgf.addr, attr := if color then p.vramAt 1 p.bgf.addr else 0x00#8 }
  | .getDataLow => { p.bgf with lo := p.vramAt (p.bgDataBank color) p.bgf.addr }
  | .getDataHigh => { p.bgf with hi := p.vramAt (p.bgDataBank color) p.bgf.addr }
  | .sleep | .push => p.bgf

/-- The phase after a data phase (R471). -/
def FetchPhase.next (ph : FetchPhase) : FetchPhase :=
  match ph with
  | .getTile => .getDataLow
  | .getDataLow => .getDataHigh
  | .getDataHigh => .sleep
  | .sleep => .sleep
  | .push => .push

/-- After an I/O micro-tick: the next phase, where the discarded warm-up fetch restarts instead of sleeping (R471, R475). -/
def BgFetcher.advance (f : BgFetcher) : BgFetcher :=
  let ph := f.phase.next
  if ph = .sleep ∧ f.warmup = true then
    { f with micro := .computeAddress, warmup := false, phase := .getTile }
  else { f with micro := .computeAddress, phase := ph }

/-- The colour of pixel `bit` of a fetched row: bit 1 from the high byte, bit 0 from the low byte (R477, R479). -/
def rowColor (hi lo : Byte) (bit : Nat) : BitVec 2 := BitVec.ofBool (hi.getLsbD bit) ++ BitVec.ofBool (lo.getLsbD bit)

/-- Background pixel `i` of the fetched row, leftmost first (R479). -/
def BgFetcher.pixel (color : Bool) (f : BgFetcher) (i : Nat) : Pixel :=
  let bit := if color && f.attr.getLsbD 5 then i else 7 - i
  { color := rowColor f.hi f.lo bit, palette := f.attr.extractLsb' 0 3, spritePriority := 0,
    bgPriority := f.attr.getLsbD 7 }

/-- The pixel numbers of a tile row, in the order they are handled (R479, R485). -/
def pixelIndices : List Nat := [0, 1, 2, 3, 4, 5, 6, 7]

/-- `BgPush()` (R479); the fetcher restarts at GetTile (R471). -/
def Ppu.bgPush (color : Bool) (p : Ppu) : Ppu :=
  { p with
    bgFifo := p.bgFifo ++ pixelIndices.map (p.bgf.pixel color)
    bgf := { p.bgf with fetchX := p.bgf.fetchX + 1, phase := .getTile } }

/-- `BgFetcherStep()` (R471). The Push phase has no dot of its own, so it acts as Sleep does. -/
def Ppu.bgFetcherStep (color : Bool) (p : Ppu) : Ppu :=
  match p.bgf.phase, p.bgf.micro with
  | .getTile, .computeAddress | .getDataLow, .computeAddress | .getDataHigh, .computeAddress =>
    { p with bgf := { p.bgf with addr := p.bgAddress color, micro := .io } }
  | .getTile, .io | .getDataLow, .io | .getDataHigh, .io => { p with bgf := (p.bgIo color).advance }
  | .sleep, _ | .push, _ => if p.bgFifo.isEmpty then p.bgPush color else p

/-! ### Window (R480, R481) -/

/-- Whether the window starts in this dot (R480). -/
def Ppu.windowStarts (p : Ppu) : Bool :=
  !p.bgf.windowMode && !p.bgf.warmup && p.lcdcBit 5 && p.wyTriggered && decide (p.wx.toNat ≤ p.lx + 7)

/-- `WindowCheck()` (R480). -/
def Ppu.windowCheck (p : Ppu) : Ppu :=
  if p.windowStarts then
    { p with
      windowDrawnThisLine := true, bgFifo := []
      bgf := { p.bgf with windowMode := true, phase := .getTile, micro := .computeAddress, fetchX := 0 }
      discard := 7 - p.wx.toNat }
  else p

/-! ### Objects (R482–R485) -/

/-- Whether entry `e` comes before `o`: the smaller x, then the smaller OAM index (R482). -/
def ObjEntry.before (e o : ObjEntry) : Bool :=
  decide (e.x.toNat < o.x.toNat) || (e.x == o.x && decide (e.oamIndex < o.oamIndex))

/-- The first of a list of entries in the order of `ObjEntry.before`. -/
def firstObject (l : List ObjEntry) : Option ObjEntry :=
  match l with
  | [] => none
  | e :: rest =>
    match firstObject rest with
    | none => some e
    | some o => if o.before e then some o else some e

/-- `DueObject()` (R482). -/
def Ppu.dueObject (p : Ppu) : Option ObjEntry :=
  if p.lcdcBit 1 then firstObject (p.selected.filter fun e => !e.fetched && decide (e.x.toNat ≤ p.lx + 8)) else none

/-- `BgAtBoundary()` (R483). -/
def Ppu.bgAtBoundary (p : Ppu) : Bool :=
  !p.bgFifo.isEmpty && (p.bgf.phase == .sleep || (p.bgf.phase == .getTile && p.bgf.micro == .computeAddress))

/-- `StartObjectFetch(o)` (R483). -/
def Ppu.startObjectFetch (p : Ppu) (o : ObjEntry) : Ppu :=
  { p with objf := { p.objf with active := true, obj := o, phase := .getTile, micro := .computeAddress } }

/-- The row of the object that the current line shows, with the vertical flip (R484). -/
def Ppu.objRow (p : Ppu) : Nat :=
  let h := p.objHeight
  let row := (p.ly.setWidth 16 + 16#16 - p.objf.obj.y.setWidth 16).toNat % h
  if p.objf.attr.getLsbD 6 then h - 1 - row else row

/-- The address of the object row's low byte; objects always use 0x8000 unsigned addressing (R484). -/
def Ppu.objDataAddress (p : Ppu) : Word :=
  let t := if p.objHeight = 16 then p.objf.tile &&& 0xFE#8 else p.objf.tile
  BitVec.ofNat 16 (0x8000 + 16 * t.toNat + 2 * p.objRow)

/-- The VRAM bank of the object's data (R484). -/
def Ppu.objDataBank (color : Bool) (p : Ppu) : Nat := bitOf (color && p.objf.attr.getLsbD 3)

/-- Object pixel `i` of the fetched row (R485). -/
def ObjFetcher.pixel (color : Bool) (f : ObjFetcher) (i : Nat) : Pixel :=
  let bit := if f.attr.getLsbD 5 then i else 7 - i
  { color := rowColor f.hi f.lo bit
    palette := if color then f.attr.extractLsb' 0 3 else (f.attr.extractLsb' 4 1).setWidth 3
    spritePriority := f.obj.oamIndex
    bgPriority := f.attr.getLsbD 7 }

/-- The transparent pixel that fills an object FIFO up to a slot (R485). -/
def blankPixel : Pixel := { color := 0, palette := 0, spritePriority := 40, bgPriority := false }

/-- The queue lengthened with transparent pixels until slot `slot` exists (R485). -/
def padTo (slot : Nat) (q : List Pixel) : List Pixel := q ++ List.replicate (slot + 1 - q.length) blankPixel

/-- Whether a new object pixel replaces a queued one (R485). -/
def objectWins (color : Bool) (new old : Pixel) : Bool :=
  old.color == 0#2 || (color && new.color != 0#2 && decide (new.spritePriority < old.spritePriority))

/-- Pixel `i` of the object merged into the object FIFO (R485). -/
def Ppu.mergePixel (color : Bool) (p : Ppu) (q : List Pixel) (i : Nat) : List Pixel :=
  let x := p.objf.obj.x.toNat + i
  if x < p.lx + 8 then q else
  let slot := x - 8 - p.lx
  let q := padTo slot q
  let new := p.objf.pixel color i
  if objectWins color new (q.getD slot blankPixel) then q.set slot new else q

/-- `MergeObject(o)` (R485). -/
def Ppu.mergeObject (color : Bool) (p : Ppu) : Ppu :=
  { p with objFifo := pixelIndices.foldl (p.mergePixel color) p.objFifo }

/-- The entry with OAM index `k` is marked fetched (R484). -/
def markFetched (k : Nat) (l : List ObjEntry) : List ObjEntry :=
  l.map fun e => if e.oamIndex = k then { e with fetched := true } else e

/-- `ObjFetcherStep()` (R484). After the last micro-step the phase returns to GetTile; the phases Sleep and Push, which an
object fetch never reaches (R473), do nothing (log entry 14). -/
def Ppu.objFetcherStep (color : Bool) (p : Ppu) : Ppu :=
  let f := p.objf
  let base := 4 * f.obj.oamIndex
  match f.phase, f.micro with
  | .getTile, .computeAddress =>
    { p with objf := { f with addr := BitVec.ofNat 16 (0xFE00 + base + 2), micro := .io } }
  | .getTile, .io =>
    { p with objf := { f with
        tile := p.oamByte (base + 2), attr := p.oamByte (base + 3), phase := .getDataLow, micro := .computeAddress } }
  | .getDataLow, .computeAddress => { p with objf := { f with addr := p.objDataAddress, micro := .io } }
  | .getDataLow, .io =>
    { p with objf := { f with
        lo := p.vramAt (p.objDataBank color) f.addr, phase := .getDataHigh, micro := .computeAddress } }
  | .getDataHigh, .computeAddress => { p with objf := { f with addr := f.addr + 1, micro := .io } }
  | .getDataHigh, .io =>
    let p := { p with objf := { f with hi := p.vramAt (p.objDataBank color) f.addr } }
    let p := p.mergeObject color
    { p with
      selected := markFetched f.obj.oamIndex p.selected
      objf := { p.objf with
        active := false, obj := { f.obj with fetched := true }, phase := .getTile, micro := .computeAddress } }
  | .sleep, _ | .push, _ => p

/-! ### Pixel output (R486, R488, R489) -/

/-- The shade of colour `c` in a DMG palette (R54). -/
def shade (pal : Byte) (c : BitVec 2) : BitVec 16 := ((pal >>> (2 * c.toNat)) &&& 3#8).setWidth 16

/-- `MixPixel(b, o)` in DMG mode (R488). -/
def Ppu.mixDmg (p : Ppu) (b : Pixel) (o : Option Pixel) : BitVec 16 :=
  let bgc := if p.lcdcBit 0 then b.color else 0#2
  let bgShade := if p.lcdcBit 0 then shade p.bgp bgc else 0#16
  match o with
  | none => bgShade
  | some o =>
    if o.color != 0#2 && p.lcdcBit 1 && !(o.bgPriority && bgc != 0#2) then
      shade (if o.palette = 1#3 then p.obp1 else p.obp0) o.color
    else bgShade

/-- `Colour(P, p, c)`: the 15-bit value of colour `c` of palette `p` (R58, R489). -/
def paletteColor (ram : Memory) (pal : BitVec 3) (c : BitVec 2) : BitVec 16 :=
  let k := 8 * pal.toNat + 2 * c.toNat
  mkWord (Memory.read ram (k + 1)) (Memory.read ram k) &&& 0x7FFF#16

/-- `MixPixel(b, o)` in colour mode (R489). -/
def Ppu.mixColor (p : Ppu) (b : Pixel) (o : Option Pixel) : BitVec 16 :=
  let bg := paletteColor p.bgPalRam b.palette b.color
  match o with
  | none => bg
  | some o =>
    if o.color != 0#2 && p.lcdcBit 1 && (!p.lcdcBit 0 || b.color == 0#2 || (!b.bgPriority && !o.bgPriority)) then
      paletteColor p.objPalRam o.palette o.color
    else bg

/-- `MixPixel(b, o)` (R488, R489). -/
def Ppu.mixPixel (color : Bool) (p : Ppu) (b : Pixel) (o : Option Pixel) : BitVec 16 :=
  if color then p.mixColor b o else p.mixDmg b o

/-- The framebuffer cell of row `y`, column `x` (R66). -/
def pixelCell (y x : Nat) : Nat := y * 160 + x

/-- `OutputPixel()` (R486). -/
def Ppu.outputPixel (color : Bool) (p : Ppu) : Ppu :=
  match p.bgFifo with
  | [] => p
  | b :: rest =>
    if 0 < p.discard then { p with bgFifo := rest, discard := p.discard - 1 }
    else
      { p with
        bgFifo := rest
        objFifo := p.objFifo.tail
        framebuffer := Cells.write p.framebuffer (pixelCell p.ly.toNat p.lx) (p.mixPixel color b p.objFifo.head?)
        lx := p.lx + 1 }

/-! ### One dot (R460, R470) -/

/-- `DrawDot()` (R470). -/
def Ppu.drawDot (color : Bool) (p : Ppu) : Ppu :=
  if p.objf.active then p.objFetcherStep color
  else
    let p := p.windowCheck
    match p.dueObject with
    | some o => if p.bgAtBoundary then (p.startObjectFetch o).objFetcherStep color else p.bgFetcherStep color
    | none => (p.bgFetcherStep color).outputPixel color

/-- What the current mode does in this dot (R460). -/
def Ppu.modeDot (color : Bool) (p : Ppu) : Ppu :=
  if p.ly.toNat < 144 then
    match p.mode with
    | .oamScan => p.oamScanDot
    | .drawing => p.drawDot color
    | .hblank | .vblank => p
  else p

/-- The mode changes inside a line (R460). -/
def Ppu.modeChange (p : Ppu) : Ppu :=
  if p.mode = .oamScan ∧ p.dot = 80 then p.startMode3
  else if p.mode = .drawing ∧ p.lx = 160 then p.endMode3
  else p

/-- The OR of the selected STAT conditions (R491). -/
def Ppu.statCondition (p : Ppu) : Bool :=
  (p.statSel.getLsbD 3 && p.ly == p.lyc) || (p.statSel.getLsbD 2 && p.mode == .oamScan)
    || (p.statSel.getLsbD 1 && p.mode == .vblank) || (p.statSel.getLsbD 0 && p.mode == .hblank)

/-- `UpdateStatLine()` (R491); the flag is the STAT request, on a rising edge only. -/
def Ppu.updateStatLine (p : Ppu) : Ppu × Bool :=
  ({ p with statLine := p.statCondition }, p.statCondition && !p.statLine)

/-- The requests of one PPU step as IF bits: VBlank is bit 0, STAT is bit 1 (R39, R490, R491). -/
def requestBits (vblank stat : Bool) : BitVec 5 := (if vblank then 0b00001#5 else 0#5) ||| (if stat then 0b00010#5 else 0#5)

/-- The end of a line: at dot 456 the next line begins (R460). -/
def Ppu.lineEnd (p : Ppu) : Ppu × Bool :=
  if p.dot = Config.dotsPerLine then { p with dot := 0 }.nextLine else (p, false)

/-- `PpuStep()` (R460) and the IF bits it sets. -/
def Ppu.step (color : Bool) (p : Ppu) : Ppu × BitVec 5 :=
  if p.lcdcBit 7 then
    let p := p.modeDot color
    let p := { p with dot := p.dot + 1 }
    let line := p.modeChange.lineEnd
    let stat := line.1.updateStatLine
    (stat.1, requestBits line.2 stat.2)
  else (p, 0#5)

/-! ### LCD on and off (R494) -/

/-- `LcdcWrite(v)` (R494). -/
def Ppu.lcdcWrite (p : Ppu) (v : Byte) : Ppu :=
  let on := v.getLsbD 7
  let q := { p with lcdc := v, lcdOnPrev := on }
  if p.lcdOnPrev && !on then { q with ly := 0, dot := 0, lx := 0, mode := .hblank, statLine := false }
  else if !p.lcdOnPrev && on then { q with ly := 0, dot := 0 }.beginLine
  else q

end Sys2Proof.Machine
end

