-- ==== Sys2Proof/Machine/Bus.lean ====
section
/-! DEFINITION. The memory-bus router (R103–R118): regions, reads, writes, the I/O registers, and the start of an OAM DMA
transfer by a write of 0xFF46 (R495). -/

namespace Sys2Proof.Machine

/-- The regions of the address map (R103). -/
inductive Region where
  | rom | vram | cartRam | wramFixed | wramBanked | echo | oam | prohibited | io | hole | hram | ie
  deriving DecidableEq, Repr

/-- The region of an address; the first matching range of R103. -/
def regionOf (a : Word) : Region :=
  let n := a.toNat
  if n ≤ 0x7FFF then .rom
  else if n ≤ 0x9FFF then .vram
  else if n ≤ 0xBFFF then .cartRam
  else if n ≤ 0xCFFF then .wramFixed
  else if n ≤ 0xDFFF then .wramBanked
  else if n ≤ 0xFDFF then .echo
  else if n ≤ 0xFE9F then .oam
  else if n ≤ 0xFEFF then .prohibited
  else if n ≤ 0xFF70 then .io
  else if n ≤ 0xFF7F then .hole
  else if n ≤ 0xFFFE then .hram
  else .ie

/-- The peripheral addresses: 0xFF00–0xFF3F but 0xFF0F (R116). -/
def isEnvAddr (a : Word) : Bool := decide (0xFF00 ≤ a.toNat) && decide (a.toNat ≤ 0xFF3F) && decide (a.toNat ≠ 0xFF0F)

/-! ### Banks and blocking -/

/-- `VramBank()` (R107). -/
def State.vramBank (s : State) : Nat := if s.colorMode then s.ppu.vbk.toNat else 0

/-- `WramBank()` (R109). -/
def State.wramBank (s : State) : Nat := if s.colorMode then max 1 s.svbk.toNat else 1

/-- The WRAM cell an address of 0xC000–0xDFFF reaches (R109). -/
def State.wramCell (s : State) (a : Word) : Nat :=
  if a.toNat ≤ 0xCFFF then a.toNat - 0xC000 else s.wramBank * Config.wramBankSize + (a.toNat - 0xD000)

/-- The VRAM cell an address of 0x8000–0x9FFF reaches (R107). -/
def State.vramCell (s : State) (a : Word) : Nat := s.vramBank * Config.vramBankSize + (a.toNat - 0x8000)

/-- The echo of an address: 0x2000 lower (R110). -/
def echoOf (a : Word) : Word := a - 0x2000#16

/-- `OamBlocked()` (R111). -/
def State.oamBlocked (s : State) : Bool := s.dma.active || s.ppu.mode == .oamScan || s.ppu.mode == .drawing

/-! ### I/O registers -/

/-- The STAT register as read: bit 7 is 1, bits 6:3 the selects, bit 2 `LY == LYC`, bits 1:0 the mode (R49, R492). -/
def Ppu.statByte (p : Ppu) : Byte := 1#1 ++ p.statSel ++ BitVec.ofBool (p.ly == p.lyc) ++ p.mode.bits

/-- `IoRead(a)` for the colour-mode range 0xFF4C–0xFF70, in colour mode (R113, R117). -/
def State.colorRead (s : State) (a : Word) : Byte :=
  match a.toNat with
  | 0xFF4F => 0xFE#8 ||| s.ppu.vbk.setWidth 8
  | 0xFF68 => s.ppu.bcps ||| 0x40#8
  | 0xFF69 => Memory.read s.ppu.bgPalRam (s.ppu.bcps.toNat % 64)
  | 0xFF6A => s.ppu.ocps ||| 0x40#8
  | 0xFF6B => Memory.read s.ppu.objPalRam (s.ppu.ocps.toNat % 64)
  | 0xFF70 => 0xF8#8 ||| s.svbk.setWidth 8
  | _ => Config.openBus

/-- `IoRead(a)` for 0xFF40–0xFF70 (R113). -/
def State.videoRead (s : State) (a : Word) : Byte :=
  match a.toNat with
  | 0xFF40 => s.ppu.lcdc
  | 0xFF41 => s.ppu.statByte
  | 0xFF42 => s.ppu.scy
  | 0xFF43 => s.ppu.scx
  | 0xFF44 => s.ppu.ly
  | 0xFF45 => s.ppu.lyc
  | 0xFF46 => s.dma.reg
  | 0xFF47 => if s.colorMode then Config.openBus else s.ppu.bgp
  | 0xFF48 => if s.colorMode then Config.openBus else s.ppu.obp0
  | 0xFF49 => if s.colorMode then Config.openBus else s.ppu.obp1
  | 0xFF4A => s.ppu.wy
  | 0xFF4B => s.ppu.wx
  | _ => if s.colorMode then s.colorRead a else Config.openBus

/-- `IoRead(a)` (R113); a peripheral address answers the environment's next byte (R116). -/
def State.ioRead (s : State) (a : Word) : Byte :=
  if a = 0xFF0F#16 then 0b111#3 ++ s.ifr
  else if isEnvAddr a then Config.envByte s.envDraws a
  else s.videoRead a

/-- The index of a palette port after a data write: the auto-increment (R58). -/
def nextPaletteIndex (ps : Byte) : Byte :=
  if ps.getLsbD 7 then (ps &&& 0x80#8) ||| ((ps + 1) &&& 0x3F#8) else ps

/-- `DmaStart(v)` (R495). -/
def Dma.start (v : Byte) : Dma :=
  let src := mkWord v 0x00#8
  { active := true, delay := 8, count := 0, sub := 0, reg := v
    src := if 0xE000 ≤ src.toNat then src - 0x2000#16 else src }

/-- A write of a palette port, which mode 3 rejects (R58, R114). -/
def Ppu.paletteWrite (p : Ppu) (a : Word) (v : Byte) : Ppu :=
  if p.mode = .drawing then p else
  match a.toNat with
  | 0xFF68 => { p with bcps := v &&& 0xBF#8 }
  | 0xFF69 =>
    { p with bgPalRam := Memory.write p.bgPalRam (p.bcps.toNat % 64) v, bcps := nextPaletteIndex p.bcps }
  | 0xFF6A => { p with ocps := v &&& 0xBF#8 }
  | 0xFF6B =>
    { p with objPalRam := Memory.write p.objPalRam (p.ocps.toNat % 64) v, ocps := nextPaletteIndex p.ocps }
  | _ => p

/-- `IoWrite(a, v)` for the colour-mode range, in colour mode (R114, R117). -/
def State.colorWrite (s : State) (a : Word) (v : Byte) : State :=
  match a.toNat with
  | 0xFF4F => { s with ppu := { s.ppu with vbk := v.setWidth 1 } }
  | 0xFF70 => { s with svbk := v.setWidth 3 }
  | _ => { s with ppu := s.ppu.paletteWrite a v }

/-- `IoWrite(a, v)` for 0xFF40–0xFF70 (R114). -/
def State.videoWrite (s : State) (a : Word) (v : Byte) : State :=
  match a.toNat with
  | 0xFF40 => { s with ppu := s.ppu.lcdcWrite v }
  | 0xFF41 => { s with ppu := { s.ppu with statSel := v.extractLsb' 3 4 } }
  | 0xFF42 => { s with ppu := { s.ppu with scy := v } }
  | 0xFF43 => { s with ppu := { s.ppu with scx := v } }
  | 0xFF44 => s
  | 0xFF45 => { s with ppu := { s.ppu with lyc := v } }
  | 0xFF46 => { s with dma := Dma.start v }
  | 0xFF47 => if s.colorMode then s else { s with ppu := { s.ppu with bgp := v } }
  | 0xFF48 => if s.colorMode then s else { s with ppu := { s.ppu with obp0 := v } }
  | 0xFF49 => if s.colorMode then s else { s with ppu := { s.ppu with obp1 := v } }
  | 0xFF4A => { s with ppu := { s.ppu with wy := v } }
  | 0xFF4B => { s with ppu := { s.ppu with wx := v } }
  | _ => if s.colorMode then s.colorWrite a v else s

/-- `IoWrite(a, v)` (R114); a peripheral address hands the byte to the environment (R116, log entry 10). -/
def State.ioWrite (s : State) (a : Word) (v : Byte) : State :=
  if a = 0xFF0F#16 then { s with ifr := v.setWidth 5 }
  else if isEnvAddr a then { s with envWrites := (a, v) :: s.envWrites }
  else s.videoWrite a v

/-! ### The router -/

/-- The byte `BusRead(a)` gives (R104, R107, R109–R112); `none` is the fatal range (R118). -/
def State.busRead (s : State) (a : Word) : Option Byte :=
  match regionOf a with
  | .rom | .cartRam => some (s.cart.read a)
  | .vram => some (if s.dma.active then Config.openBus else Memory.read s.ppu.vram (s.vramCell a))
  | .wramFixed | .wramBanked => some (Memory.read s.wram (s.wramCell a))
  | .echo => some (Memory.read s.wram (s.wramCell (echoOf a)))
  | .oam => some (if s.oamBlocked then Config.openBus else Memory.read s.ppu.oam (a.toNat - 0xFE00))
  | .prohibited => some Config.openBus
  | .io => some (s.ioRead a)
  | .hole => none
  | .hram => some (Memory.read s.hram (a.toNat - 0xFF80))
  | .ie => some s.ie

/-- The state after a read: an environment read is drawn, and nothing else changes (R116, R120; log entry 8). -/
def State.afterRead (s : State) (a : Word) : State :=
  if isEnvAddr a then { s with envDraws := s.envDraws + 1 } else s

/-- The state `BusWrite(a, v)` leaves (R105, R107, R109–R112); `none` is the fatal range (R118). -/
def State.busWrite (s : State) (a : Word) (v : Byte) : Option State :=
  match regionOf a with
  | .rom | .cartRam => some { s with cart := s.cart.write a v }
  | .vram =>
    some (if s.dma.active then s else { s with ppu := { s.ppu with vram := Memory.write s.ppu.vram (s.vramCell a) v } })
  | .wramFixed | .wramBanked => some { s with wram := Memory.write s.wram (s.wramCell a) v }
  | .echo => some { s with wram := Memory.write s.wram (s.wramCell (echoOf a)) v }
  | .oam =>
    some (if s.oamBlocked then s
      else { s with ppu := { s.ppu with oam := Memory.write s.ppu.oam (a.toNat - 0xFE00) v } })
  | .prohibited => some s
  | .io => some (s.ioWrite a v)
  | .hole => none
  | .hram => some { s with hram := Memory.write s.hram (a.toNat - 0xFF80) v }
  | .ie => some { s with ie := v }

end Sys2Proof.Machine
end

