-- ==== Sys2Proof/Machine/Flags.lean ====
section
/-! DEFINITION. The flags (R33, R34) and every flag computation: 8-bit addition and subtraction (R280), logic, increment
and decrement, decimal adjust (R309), 16-bit addition (R322, R323), rotates and shifts (R330–R342), bit test (R343). -/

namespace Sys2Proof.Machine

/-- The four flags of F[7:4] (R33). -/
structure Flags where
  z : Bool
  n : Bool
  h : Bool
  c : Bool
  deriving DecidableEq, Repr

/-- The flags in a byte laid out as F (R33). -/
def Flags.ofByte (f : Byte) : Flags := ⟨f.getLsbD 7, f.getLsbD 6, f.getLsbD 5, f.getLsbD 4⟩

/-- F with these flags; its low nibble is 0 (R33). -/
def Flags.toByte (f : Flags) : Byte :=
  BitVec.ofBool f.z ++ BitVec.ofBool f.n ++ BitVec.ofBool f.h ++ BitVec.ofBool f.c ++ 0#4

/-! ### 8-bit arithmetic (R280) -/

/-- `Add8(a, b, c)` (R280). -/
def add8 (a b : Byte) (c : Bool) : Byte × Flags :=
  let r := a.toNat + b.toNat + bitOf c
  (BitVec.ofNat 8 r,
    { z := r % 256 == 0, n := false, h := decide (a.toNat % 16 + b.toNat % 16 + bitOf c > 0x0F), c := decide (r > 0xFF) })

/-- `Sub8(a, b, c)` (R280). -/
def sub8 (a b : Byte) (c : Bool) : Byte × Flags :=
  let r := a - b - BitVec.ofNat 8 (bitOf c)
  (r, { z := r == 0#8, n := true, h := decide (a.toNat % 16 < b.toNat % 16 + bitOf c),
        c := decide (a.toNat < b.toNat + bitOf c) })

/-- The flags of AND (R293) and of XOR and OR (R296, R299): Z from the result, H as given, N and C 0. -/
def logicFlags (r : Byte) (h : Bool) : Flags := { z := r == 0#8, n := false, h := h, c := false }

/-- An ALU operation on A and an operand, with the incoming carry: the new A and the flags (R281–R304). -/
def applyAlu (op : AluOp) (a v : Byte) (c : Bool) : Byte × Flags :=
  match op with
  | .add => add8 a v false
  | .adc => add8 a v c
  | .sub => sub8 a v false
  | .sbc => sub8 a v c
  | .and => (a &&& v, logicFlags (a &&& v) true)
  | .xor => (a ^^^ v, logicFlags (a ^^^ v) false)
  | .or => (a ||| v, logicFlags (a ||| v) false)
  | .cp => (a, (sub8 a v false).2)

/-- INC of a byte; C is unchanged (R305, R306). -/
def inc8 (v : Byte) (f : Flags) : Byte × Flags :=
  (v + 1, { z := v + 1 == 0#8, n := false, h := (v &&& 0x0F#8) == 0x0F#8, c := f.c })

/-- DEC of a byte; C is unchanged (R307, R308). -/
def dec8 (v : Byte) (f : Flags) : Byte × Flags :=
  (v - 1, { z := v - 1 == 0#8, n := true, h := (v &&& 0x0F#8) == 0x00#8, c := f.c })

/-- DAA (R309): the new A and flags; N is unchanged, H is 0, and C is set by the addition case or unchanged. -/
def daa (a : Byte) (f : Flags) : Byte × Flags :=
  if f.n then
    let r := a - (if f.c then 0x60#8 else 0#8) - (if f.h then 0x06#8 else 0#8)
    (r, { z := r == 0#8, n := f.n, h := false, c := f.c })
  else
    let carry := f.c || decide (a.toNat > 0x99)
    let r := a + (if carry then 0x60#8 else 0#8) + (if f.h || decide (a.toNat % 16 > 0x09) then 0x06#8 else 0#8)
    (r, { z := r == 0#8, n := f.n, h := false, c := carry })

/-! ### 16-bit arithmetic -/

/-- `ADD HL,rr` (R322): Z is unchanged; H and C are the carries out of bits 11 and 15. -/
def addHl (a b : Word) (f : Flags) : Word × Flags :=
  (a + b, { z := f.z, n := false, h := decide (a.toNat % 0x1000 + b.toNat % 0x1000 > 0x0FFF),
            c := decide (a.toNat + b.toNat > 0xFFFF) })

/-- SP plus a signed byte (R263, R323): H and C come from the unsigned low nibble and low byte. -/
def addSp (sp : Word) (e : Byte) : Word × Flags :=
  (sp + sext16 e, { z := false, n := false, h := decide (sp.toNat % 16 + e.toNat % 16 > 0x0F),
                    c := decide (sp.toNat % 256 + e.toNat > 0xFF) })

/-! ### Rotates, shifts and bits -/

/-- The result of a rotate or shift by one, with the incoming carry (R335–R342). -/
def shiftResult (op : ShiftOp) (v : Byte) (c : Bool) : Byte :=
  match op with
  | .rlc => (v <<< 1) ||| (v >>> 7)
  | .rrc => (v >>> 1) ||| (v <<< 7)
  | .rl => (v <<< 1) ||| BitVec.ofNat 8 (bitOf c)
  | .rr => (v >>> 1) ||| (BitVec.ofNat 8 (bitOf c) <<< 7)
  | .sla => v <<< 1
  | .sra => (v >>> 1) ||| (v &&& 0x80#8)
  | .swap => (v <<< 4) ||| (v >>> 4)
  | .srl => v >>> 1

/-- The carry a rotate or shift leaves: the bit shifted out, and 0 for SWAP (R335–R342). -/
def shiftCarry (op : ShiftOp) (v : Byte) : Bool :=
  match op with
  | .rlc | .rl | .sla => v.getLsbD 7
  | .rrc | .rr | .sra | .srl => v.getLsbD 0
  | .swap => false

/-- A rotate or shift of the prefixed group: Z from the result, N and H 0 (R335–R342). -/
def applyShift (op : ShiftOp) (v : Byte) (c : Bool) : Byte × Flags :=
  let r := shiftResult op v c
  (r, { z := r == 0#8, n := false, h := false, c := shiftCarry op v })

/-- A rotate of A in the main table: as the prefixed rotate, but Z is always 0 (R330–R333). -/
def applyRotateA (op : ShiftOp) (v : Byte) (c : Bool) : Byte × Flags :=
  (shiftResult op v c, { z := false, n := false, h := false, c := shiftCarry op v })

/-- BIT b: Z is the complement of the tested bit, N 0, H 1, C unchanged (R343). -/
def bitFlags (b : Nat) (v : Byte) (f : Flags) : Flags := { z := !v.getLsbD b, n := false, h := true, c := f.c }

/-- RES b (R344). -/
def resBit (b : Nat) (v : Byte) : Byte := v &&& ~~~(1#8 <<< b)

/-- SET b (R345). -/
def setBit (b : Nat) (v : Byte) : Byte := v ||| (1#8 <<< b)

end Sys2Proof.Machine
end

