-- ==== Sys2Proof/Machine/Ops.lean ====
section
/-! DEFINITION. The named operations over registers and the bus: register views (R30–R33), one-byte accesses that may
fault (R104, R105, R118), fetching (R14, R220), the stack helpers (R130, R131), the abnormal outcomes (R440, R441), taking
an interrupt and returning from one (R425, R376), and the deferred EI transition (R430). -/

namespace Sys2Proof.Machine

/-! ### Registers -/

/-- The 8-bit register an operand names: a byte view of its cell (R31). -/
def Regs.r8 (g : Regs) (r : Reg8) : Byte :=
  match r with
  | .b => hiByte g.bc
  | .c => loByte g.bc
  | .d => hiByte g.de
  | .e => loByte g.de
  | .h => hiByte g.hl
  | .l => loByte g.hl
  | .a => hiByte g.af

/-- Write of an 8-bit register: only its byte of the cell changes (R30). -/
def Regs.setR8 (g : Regs) (r : Reg8) (v : Byte) : Regs :=
  match r with
  | .b => { g with bc := setHi g.bc v }
  | .c => { g with bc := setLo g.bc v }
  | .d => { g with de := setHi g.de v }
  | .e => { g with de := setLo g.de v }
  | .h => { g with hl := setHi g.hl v }
  | .l => { g with hl := setLo g.hl v }
  | .a => { g with af := setHi g.af v }

/-- The value of AF: F's low nibble always reads 0 (R33, log entry 16). -/
def Regs.afValue (g : Regs) : Word := g.af &&& 0xFFF0#16

/-- The 16-bit register an operand names (R31, R33). -/
def Regs.r16 (g : Regs) (r : Reg16) : Word :=
  match r with
  | .bc => g.bc
  | .de => g.de
  | .hl => g.hl
  | .sp => g.sp
  | .af => g.afValue

/-- Write of a 16-bit register; AF keeps F's low nibble 0 (R33, R265). -/
def Regs.setR16 (g : Regs) (r : Reg16) (v : Word) : Regs :=
  match r with
  | .bc => { g with bc := v }
  | .de => { g with de := v }
  | .hl => { g with hl := v }
  | .sp => { g with sp := v }
  | .af => { g with af := v &&& 0xFFF0#16 }

/-- Read of an 8-bit register (R31). -/
def State.r8 (s : State) (r : Reg8) : Byte := s.regs.r8 r

/-- Write of an 8-bit register (R30). -/
def State.setR8 (s : State) (r : Reg8) (v : Byte) : State := { s with regs := s.regs.setR8 r v }

/-- F, the low byte of AF (R31, R33). -/
def State.f (s : State) : Byte := loByte s.regs.afValue

/-- The flags (R33). -/
def State.flags (s : State) : Flags := Flags.ofByte s.f

/-- Write of the flags; F's low nibble is 0 (R33). -/
def State.setFlags (s : State) (f : Flags) : State := { s with regs := { s.regs with af := setLo s.regs.af f.toByte } }

/-- Read of a 16-bit register (R31). -/
def State.r16 (s : State) (r : Reg16) : Word := s.regs.r16 r

/-- Write of a 16-bit register (R30, R33). -/
def State.setR16 (s : State) (r : Reg16) (v : Word) : State := { s with regs := s.regs.setR16 r v }

/-- Write of PC (R35). -/
def State.setPc (s : State) (a : Word) : State := { s with regs := { s.regs with pc := a } }

/-! ### Cost -/

/-- A cost of `n` machine cycles is added to CyclesRemaining (R412, R414). -/
def State.charge (s : State) (n : Nat) : State :=
  { s with cyclesRemaining := s.cyclesRemaining + Config.dotsPerCycle * n }

/-! ### Abnormal outcomes -/

/-- `raise Fault(BusOutOfRange, a)`: Faulted at the access; what was done before stays (R441). -/
def State.raiseFault (s : State) (a : Word) : State := { s with runState := .faulted .busOutOfRange a }

/-- `raise Lock(opcode)`: Locked, with the opcode and the address after it (R440). -/
def State.raiseLock (s : State) (opcode : Byte) : State := { s with runState := .locked opcode s.regs.pc }

/-- Whether RunState is Locked or Faulted: nothing moves any more (R410). -/
def State.terminal (s : State) : Bool :=
  match s.runState with
  | .locked _ _ | .faulted _ _ => true
  | .running | .halted | .stopped => false

/-! ### Accesses -/

/-- The outcome of accesses: a value and the state to go on from, or the state in which the machine stopped. -/
inductive Access (α : Type) where
  | ok (x : α) (s : State)
  | stop (s : State)

/-- What follows a sequence of accesses happens only when none of them stopped the machine (R441). -/
def Access.run {α : Type} (x : Access α) (k : α → State → State) : State :=
  match x with
  | .ok v s => k v s
  | .stop s => s

/-- One access after another. -/
def Access.andThen {α β : Type} (x : Access α) (k : α → State → Access β) : Access β :=
  match x with
  | .ok v s => k v s
  | .stop s => .stop s

/-- `BusRead(a)` by the CPU (R104, R118). -/
def State.read (s : State) (a : Word) : Access Byte :=
  match s.busRead a with
  | some v => .ok v (s.afterRead a)
  | none => .stop (s.raiseFault a)

/-- `BusWrite(a, v)` by the CPU (R105, R118). -/
def State.write (s : State) (a : Word) (v : Byte) : Access Unit :=
  match s.busWrite a v with
  | some s => .ok () s
  | none => .stop (s.raiseFault a)

/-- `Fetch8()` (R14, R35): PC advances only after the read. -/
def State.fetch8 (s : State) : Access Byte := (s.read s.regs.pc).andThen fun v s => .ok v (s.setPc (s.regs.pc + 1))

/-- `n` bytes fetched in order (R14, R220). -/
def State.fetchBytes (n : Nat) (s : State) : Access (List Byte) :=
  match n with
  | 0 => .ok [] s
  | n + 1 => s.fetch8.andThen fun v s => (s.fetchBytes n).andThen fun vs s => .ok (v :: vs) s

/-- `Push16(v)`: decrement then write, high byte then low byte (R130). -/
def State.push16 (s : State) (v : Word) : Access Unit :=
  let s := s.setR16 .sp (s.regs.sp - 1)
  (s.write s.regs.sp (hiByte v)).andThen fun _ s =>
    let s := s.setR16 .sp (s.regs.sp - 1)
    s.write s.regs.sp (loByte v)

/-- `Pop16()`: read then increment, low byte then high byte (R131). -/
def State.pop16 (s : State) : Access Word :=
  (s.read s.regs.sp).andThen fun lo s =>
    let s := s.setR16 .sp (s.regs.sp + 1)
    (s.read s.regs.sp).andThen fun hi s => .ok (mkWord hi lo) (s.setR16 .sp (s.regs.sp + 1))

/-! ### Interrupts -/

/-- The IE and IF bit of a source (R39). -/
def Irq.bit (i : Irq) : Nat :=
  match i with
  | .vblank => 0
  | .lcd => 1
  | .timer => 2
  | .serial => 3
  | .joypad => 4

/-- The fixed vector of a source, 0x0040 + 8 × bit (R39, R425). -/
def Irq.vector (i : Irq) : Word := BitVec.ofNat 16 (0x40 + 8 * i.bit)

/-- The pending interrupts: requested and enabled, `IE & IF & 0x1F` (R420). -/
def State.pending (s : State) : BitVec 5 := s.ie.setWidth 5 &&& s.ifr

/-- The pending source of the highest priority, the lowest bit (R422). -/
def State.nextIrq (s : State) : Option Irq :=
  if s.pending.getLsbD 0 then some .vblank
  else if s.pending.getLsbD 1 then some .lcd
  else if s.pending.getLsbD 2 then some .timer
  else if s.pending.getLsbD 3 then some .serial
  else if s.pending.getLsbD 4 then some .joypad
  else none

/-- Taking an interrupt, `ServiceInterrupt()`, and its cost of 5 machine cycles (R425, R426): the IF bit and IME are
cleared, PC is pushed, and PC becomes the vector, which was chosen before the push. -/
def State.takeInterrupt (s : State) (i : Irq) : State :=
  let s := { s with ifr := s.ifr &&& ~~~(1#5 <<< i.bit), ime := false }
  (s.push16 s.regs.pc).run fun _ s => { s.setPc i.vector with cyclesRemaining := Config.dotsPerCycle * 5 }

/-- The return from an interrupt: PC is popped, IME is set at once and a pending EI is dropped (R376, R428). -/
def State.returnFromInterrupt (s : State) : Access Unit :=
  s.pop16.andThen fun pc s => .ok () { s.setPc pc with ime := true, pendingEI := .none }

/-- `ApplyPendingEI()` (R430). -/
def State.applyPendingEI (s : State) : State :=
  match s.pendingEI with
  | .enableNextTick => { s with ime := true, pendingEI := .none }
  | .delayEnable => { s with pendingEI := .enableNextTick }
  | .none => s

end Sys2Proof.Machine
end

