-- ==== Sys2Proof/Machine/Operands.lean ====
section
/-! DEFINITION. Operand forms: 8-bit operands (R203, R334), conditions (R18), the high page (R208), and the shapes of
instruction the families share. Every shape ends by charging its machine cycles (R414). -/

namespace Sys2Proof.Machine

/-- `CbRead(z)` and the operand reads of the ALU: a register, or the byte at HL (R203, R334). -/
def State.readLoc (s : State) (z : Loc8) : Access Byte :=
  match z with
  | .reg r => .ok (s.r8 r) s
  | .mhl => s.read s.regs.hl

/-- `CbWrite(z, v)`: a register, or the byte at HL (R203, R334). -/
def State.writeLoc (s : State) (z : Loc8) (v : Byte) : Access Unit :=
  match z with
  | .reg r => .ok () (s.setR8 r v)
  | .mhl => s.write s.regs.hl v

/-- `Cond(cc)` (R18, R205). -/
def State.cond (s : State) (cc : Cond) : Bool :=
  match cc with
  | .nz => !s.flags.z
  | .z => s.flags.z
  | .nc => !s.flags.c
  | .c => s.flags.c

/-- The high-page address `0xFF00 | n` (R208, R230). -/
def highPage (n : Byte) : Word := mkWord 0xFF#8 n

/-- A register loaded from the bus, in `n` machine cycles (R233, R236, R237, R244, R246, R248). -/
def State.loadFrom (s : State) (r : Reg8) (a : Word) (n : Nat) : State := (s.read a).run fun v s => (s.setR8 r v).charge n

/-- A byte stored to the bus, in `n` machine cycles (R234, R235, R238, R239, R245, R247, R249). -/
def State.storeTo (s : State) (a : Word) (v : Byte) (n : Nat) : State := (s.write a v).run fun _ s => s.charge n

/-- An ALU operation on A and a byte: A and the flags (R281–R304). -/
def State.alu (s : State) (op : AluOp) (v : Byte) : State :=
  let r := applyAlu op (s.r8 .a) v s.flags.c
  (s.setR8 .a r.1).setFlags r.2

/-- An operand replaced by a function of itself and the flags, with the flags the function gives: the read, then the
write, then the flags (R305–R308, R335–R342). -/
def State.modify (s : State) (z : Loc8) (f : Byte → Flags → Byte × Flags) (n : Nat) : State :=
  ((s.readLoc z).andThen fun v s =>
    let r := f v s.flags
    (s.writeLoc z r.1).andThen fun _ s => .ok () (s.setFlags r.2)).run fun _ s => s.charge n

/-- An operand replaced by a function of itself; no flag changes (R344, R345). -/
def State.modifyPlain (s : State) (z : Loc8) (f : Byte → Byte) (n : Nat) : State :=
  ((s.readLoc z).andThen fun v s => s.writeLoc z (f v)).run fun _ s => s.charge n

/-- The machine cycles of a prefixed read-modify-write (R334). -/
def locCycles (z : Loc8) : Nat :=
  match z with
  | .reg _ => 2
  | .mhl => 4

/-- The machine cycles of a prefixed bit test (R334). -/
def locTestCycles (z : Loc8) : Nat :=
  match z with
  | .reg _ => 2
  | .mhl => 3

end Sys2Proof.Machine
end

