-- ==== Sys2Proof/Machine/Alu16.lean ====
section
/-! DEFINITION. The 16-bit arithmetic (44_alu16.md, R320–R324): one meaning for each row. -/

namespace Sys2Proof.Machine

/-- INC and DEC of a register pair; no flag changes (R320, R321). -/
def State.stepReg16 (s : State) (r : Reg16) (d : Word) : State := (s.setR16 r (s.r16 r + d)).charge 2

/-- A register pair added to HL (R322). -/
def State.addToHl (s : State) (r : Reg16) : State :=
  let v := addHl s.regs.hl (s.r16 r) s.flags
  ((s.setR16 .hl v.1).setFlags v.2).charge 2

/-- A signed byte added to SP (R323). -/
def State.addToSp (s : State) (e : Byte) : State :=
  let v := addSp s.regs.sp e
  ((s.setR16 .sp v.1).setFlags v.2).charge 4

/-- `INC BC` (R320). -/
def execInc_bc (s : State) : Result := .next (s.stepReg16 .bc 1)

/-- `ADD HL,BC` (R322). -/
def execAdd_hl_bc (s : State) : Result := .next (s.addToHl .bc)

/-- `DEC BC` (R321). -/
def execDec_bc (s : State) : Result := .next (s.stepReg16 .bc (-1))

/-- `INC DE` (R320). -/
def execInc_de (s : State) : Result := .next (s.stepReg16 .de 1)

/-- `ADD HL,DE` (R322). -/
def execAdd_hl_de (s : State) : Result := .next (s.addToHl .de)

/-- `DEC DE` (R321). -/
def execDec_de (s : State) : Result := .next (s.stepReg16 .de (-1))

/-- `INC HL` (R320). -/
def execInc_hl (s : State) : Result := .next (s.stepReg16 .hl 1)

/-- `ADD HL,HL` (R322). -/
def execAdd_hl_hl (s : State) : Result := .next (s.addToHl .hl)

/-- `DEC HL` (R321). -/
def execDec_hl (s : State) : Result := .next (s.stepReg16 .hl (-1))

/-- `INC SP` (R320). -/
def execInc_sp (s : State) : Result := .next (s.stepReg16 .sp 1)

/-- `ADD HL,SP` (R322). -/
def execAdd_hl_sp (s : State) : Result := .next (s.addToHl .sp)

/-- `DEC SP` (R321). -/
def execDec_sp (s : State) : Result := .next (s.stepReg16 .sp (-1))

/-- `ADD SP,e8` (R323). -/
def execAdd_sp_e8 (e : Byte) (s : State) : Result := .next (s.addToSp e)

end Sys2Proof.Machine
end

