-- ==== Sys2Proof/Machine/Alu8.lean ====
section
/-! DEFINITION. The 8-bit arithmetic and logic (43_alu8.md, R280–R313): one meaning for each row. -/

namespace Sys2Proof.Machine

/-- An ALU operation on A and a register (1 machine cycle) or the byte at HL (2) (R281–R303). -/
def State.aluLoc (s : State) (op : AluOp) (z : Loc8) : State :=
  match z with
  | .reg r => (s.alu op (s.r8 r)).charge 1
  | .mhl => (s.read s.regs.hl).run fun v s => (s.alu op v).charge 2

/-- An ALU operation on A and an immediate byte (R283–R304). -/
def State.aluImm (s : State) (op : AluOp) (n : Byte) : State := (s.alu op n).charge 2

/-- The machine cycles of INC and DEC of a byte (R305–R308). -/
def stepCycles (z : Loc8) : Nat :=
  match z with
  | .reg _ => 1
  | .mhl => 3

/-- INC of a register or of the byte at HL (R305, R306). -/
def State.incLoc (s : State) (z : Loc8) : State := s.modify z inc8 (stepCycles z)

/-- DEC of a register or of the byte at HL (R307, R308). -/
def State.decLoc (s : State) (z : Loc8) : State := s.modify z dec8 (stepCycles z)

/-- The decimal adjust of A (R309). -/
def State.adjustA (s : State) : State :=
  let r := daa (s.r8 .a) s.flags
  ((s.setR8 .a r.1).setFlags r.2).charge 1

/-- The complement of A; Z and C unchanged (R310). -/
def State.complementA (s : State) : State :=
  ((s.setR8 .a (s.r8 .a ^^^ 0xFF#8)).setFlags { s.flags with n := true, h := true }).charge 1

/-- C set; Z unchanged (R311). -/
def State.setCarry (s : State) : State := (s.setFlags { s.flags with n := false, h := false, c := true }).charge 1

/-- C complemented; Z unchanged (R312). -/
def State.flipCarry (s : State) : State :=
  (s.setFlags { s.flags with n := false, h := false, c := !s.flags.c }).charge 1

/-- `INC B` (R305). -/
def execInc_b (s : State) : Result := .next (s.incLoc (.reg .b))

/-- `DEC B` (R307). -/
def execDec_b (s : State) : Result := .next (s.decLoc (.reg .b))

/-- `INC C` (R305). -/
def execInc_c (s : State) : Result := .next (s.incLoc (.reg .c))

/-- `DEC C` (R307). -/
def execDec_c (s : State) : Result := .next (s.decLoc (.reg .c))

/-- `INC D` (R305). -/
def execInc_d (s : State) : Result := .next (s.incLoc (.reg .d))

/-- `DEC D` (R307). -/
def execDec_d (s : State) : Result := .next (s.decLoc (.reg .d))

/-- `INC E` (R305). -/
def execInc_e (s : State) : Result := .next (s.incLoc (.reg .e))

/-- `DEC E` (R307). -/
def execDec_e (s : State) : Result := .next (s.decLoc (.reg .e))

/-- `INC H` (R305). -/
def execInc_h (s : State) : Result := .next (s.incLoc (.reg .h))

/-- `DEC H` (R307). -/
def execDec_h (s : State) : Result := .next (s.decLoc (.reg .h))

/-- `DAA` (R309). -/
def execDaa (s : State) : Result := .next (s.adjustA)

/-- `INC L` (R305). -/
def execInc_l (s : State) : Result := .next (s.incLoc (.reg .l))

/-- `DEC L` (R307). -/
def execDec_l (s : State) : Result := .next (s.decLoc (.reg .l))

/-- `CPL` (R310). -/
def execCpl (s : State) : Result := .next (s.complementA)

/-- `INC (HL)` (R306). -/
def execInc_mhl (s : State) : Result := .next (s.incLoc .mhl)

/-- `DEC (HL)` (R308). -/
def execDec_mhl (s : State) : Result := .next (s.decLoc .mhl)

/-- `SCF` (R311). -/
def execScf (s : State) : Result := .next (s.setCarry)

/-- `INC A` (R305). -/
def execInc_a (s : State) : Result := .next (s.incLoc (.reg .a))

/-- `DEC A` (R307). -/
def execDec_a (s : State) : Result := .next (s.decLoc (.reg .a))

/-- `CCF` (R312). -/
def execCcf (s : State) : Result := .next (s.flipCarry)

/-- `ADD A,B` (R281). -/
def execAdd_a_b (s : State) : Result := .next (s.aluLoc .add (.reg .b))

/-- `ADD A,C` (R281). -/
def execAdd_a_c (s : State) : Result := .next (s.aluLoc .add (.reg .c))

/-- `ADD A,D` (R281). -/
def execAdd_a_d (s : State) : Result := .next (s.aluLoc .add (.reg .d))

/-- `ADD A,E` (R281). -/
def execAdd_a_e (s : State) : Result := .next (s.aluLoc .add (.reg .e))

/-- `ADD A,H` (R281). -/
def execAdd_a_h (s : State) : Result := .next (s.aluLoc .add (.reg .h))

/-- `ADD A,L` (R281). -/
def execAdd_a_l (s : State) : Result := .next (s.aluLoc .add (.reg .l))

/-- `ADD A,(HL)` (R282). -/
def execAdd_a_mhl (s : State) : Result := .next (s.aluLoc .add .mhl)

/-- `ADD A,A` (R281). -/
def execAdd_a_a (s : State) : Result := .next (s.aluLoc .add (.reg .a))

/-- `ADC A,B` (R284). -/
def execAdc_a_b (s : State) : Result := .next (s.aluLoc .adc (.reg .b))

/-- `ADC A,C` (R284). -/
def execAdc_a_c (s : State) : Result := .next (s.aluLoc .adc (.reg .c))

/-- `ADC A,D` (R284). -/
def execAdc_a_d (s : State) : Result := .next (s.aluLoc .adc (.reg .d))

/-- `ADC A,E` (R284). -/
def execAdc_a_e (s : State) : Result := .next (s.aluLoc .adc (.reg .e))

/-- `ADC A,H` (R284). -/
def execAdc_a_h (s : State) : Result := .next (s.aluLoc .adc (.reg .h))

/-- `ADC A,L` (R284). -/
def execAdc_a_l (s : State) : Result := .next (s.aluLoc .adc (.reg .l))

/-- `ADC A,(HL)` (R285). -/
def execAdc_a_mhl (s : State) : Result := .next (s.aluLoc .adc .mhl)

/-- `ADC A,A` (R284). -/
def execAdc_a_a (s : State) : Result := .next (s.aluLoc .adc (.reg .a))

/-- `SUB B` (R287). -/
def execSub_b (s : State) : Result := .next (s.aluLoc .sub (.reg .b))

/-- `SUB C` (R287). -/
def execSub_c (s : State) : Result := .next (s.aluLoc .sub (.reg .c))

/-- `SUB D` (R287). -/
def execSub_d (s : State) : Result := .next (s.aluLoc .sub (.reg .d))

/-- `SUB E` (R287). -/
def execSub_e (s : State) : Result := .next (s.aluLoc .sub (.reg .e))

/-- `SUB H` (R287). -/
def execSub_h (s : State) : Result := .next (s.aluLoc .sub (.reg .h))

/-- `SUB L` (R287). -/
def execSub_l (s : State) : Result := .next (s.aluLoc .sub (.reg .l))

/-- `SUB (HL)` (R288). -/
def execSub_mhl (s : State) : Result := .next (s.aluLoc .sub .mhl)

/-- `SUB A` (R287). -/
def execSub_a (s : State) : Result := .next (s.aluLoc .sub (.reg .a))

/-- `SBC A,B` (R290). -/
def execSbc_a_b (s : State) : Result := .next (s.aluLoc .sbc (.reg .b))

/-- `SBC A,C` (R290). -/
def execSbc_a_c (s : State) : Result := .next (s.aluLoc .sbc (.reg .c))

/-- `SBC A,D` (R290). -/
def execSbc_a_d (s : State) : Result := .next (s.aluLoc .sbc (.reg .d))

/-- `SBC A,E` (R290). -/
def execSbc_a_e (s : State) : Result := .next (s.aluLoc .sbc (.reg .e))

/-- `SBC A,H` (R290). -/
def execSbc_a_h (s : State) : Result := .next (s.aluLoc .sbc (.reg .h))

/-- `SBC A,L` (R290). -/
def execSbc_a_l (s : State) : Result := .next (s.aluLoc .sbc (.reg .l))

/-- `SBC A,(HL)` (R291). -/
def execSbc_a_mhl (s : State) : Result := .next (s.aluLoc .sbc .mhl)

/-- `SBC A,A` (R290). -/
def execSbc_a_a (s : State) : Result := .next (s.aluLoc .sbc (.reg .a))

/-- `AND B` (R293). -/
def execAnd_b (s : State) : Result := .next (s.aluLoc .and (.reg .b))

/-- `AND C` (R293). -/
def execAnd_c (s : State) : Result := .next (s.aluLoc .and (.reg .c))

/-- `AND D` (R293). -/
def execAnd_d (s : State) : Result := .next (s.aluLoc .and (.reg .d))

/-- `AND E` (R293). -/
def execAnd_e (s : State) : Result := .next (s.aluLoc .and (.reg .e))

/-- `AND H` (R293). -/
def execAnd_h (s : State) : Result := .next (s.aluLoc .and (.reg .h))

/-- `AND L` (R293). -/
def execAnd_l (s : State) : Result := .next (s.aluLoc .and (.reg .l))

/-- `AND (HL)` (R294). -/
def execAnd_mhl (s : State) : Result := .next (s.aluLoc .and .mhl)

/-- `AND A` (R293). -/
def execAnd_a (s : State) : Result := .next (s.aluLoc .and (.reg .a))

/-- `XOR B` (R296). -/
def execXor_b (s : State) : Result := .next (s.aluLoc .xor (.reg .b))

/-- `XOR C` (R296). -/
def execXor_c (s : State) : Result := .next (s.aluLoc .xor (.reg .c))

/-- `XOR D` (R296). -/
def execXor_d (s : State) : Result := .next (s.aluLoc .xor (.reg .d))

/-- `XOR E` (R296). -/
def execXor_e (s : State) : Result := .next (s.aluLoc .xor (.reg .e))

/-- `XOR H` (R296). -/
def execXor_h (s : State) : Result := .next (s.aluLoc .xor (.reg .h))

/-- `XOR L` (R296). -/
def execXor_l (s : State) : Result := .next (s.aluLoc .xor (.reg .l))

/-- `XOR (HL)` (R297). -/
def execXor_mhl (s : State) : Result := .next (s.aluLoc .xor .mhl)

/-- `XOR A` (R296). -/
def execXor_a (s : State) : Result := .next (s.aluLoc .xor (.reg .a))

/-- `OR B` (R299). -/
def execOr_b (s : State) : Result := .next (s.aluLoc .or (.reg .b))

/-- `OR C` (R299). -/
def execOr_c (s : State) : Result := .next (s.aluLoc .or (.reg .c))

/-- `OR D` (R299). -/
def execOr_d (s : State) : Result := .next (s.aluLoc .or (.reg .d))

/-- `OR E` (R299). -/
def execOr_e (s : State) : Result := .next (s.aluLoc .or (.reg .e))

/-- `OR H` (R299). -/
def execOr_h (s : State) : Result := .next (s.aluLoc .or (.reg .h))

/-- `OR L` (R299). -/
def execOr_l (s : State) : Result := .next (s.aluLoc .or (.reg .l))

/-- `OR (HL)` (R300). -/
def execOr_mhl (s : State) : Result := .next (s.aluLoc .or .mhl)

/-- `OR A` (R299). -/
def execOr_a (s : State) : Result := .next (s.aluLoc .or (.reg .a))

/-- `CP B` (R302). -/
def execCp_b (s : State) : Result := .next (s.aluLoc .cp (.reg .b))

/-- `CP C` (R302). -/
def execCp_c (s : State) : Result := .next (s.aluLoc .cp (.reg .c))

/-- `CP D` (R302). -/
def execCp_d (s : State) : Result := .next (s.aluLoc .cp (.reg .d))

/-- `CP E` (R302). -/
def execCp_e (s : State) : Result := .next (s.aluLoc .cp (.reg .e))

/-- `CP H` (R302). -/
def execCp_h (s : State) : Result := .next (s.aluLoc .cp (.reg .h))

/-- `CP L` (R302). -/
def execCp_l (s : State) : Result := .next (s.aluLoc .cp (.reg .l))

/-- `CP (HL)` (R303). -/
def execCp_mhl (s : State) : Result := .next (s.aluLoc .cp .mhl)

/-- `CP A` (R302). -/
def execCp_a (s : State) : Result := .next (s.aluLoc .cp (.reg .a))

/-- `ADD A,n8` (R283). -/
def execAdd_a_n8 (n : Byte) (s : State) : Result := .next (s.aluImm .add n)

/-- `ADC A,n8` (R286). -/
def execAdc_a_n8 (n : Byte) (s : State) : Result := .next (s.aluImm .adc n)

/-- `SUB n8` (R289). -/
def execSub_n8 (n : Byte) (s : State) : Result := .next (s.aluImm .sub n)

/-- `SBC A,n8` (R292). -/
def execSbc_a_n8 (n : Byte) (s : State) : Result := .next (s.aluImm .sbc n)

/-- `AND n8` (R295). -/
def execAnd_n8 (n : Byte) (s : State) : Result := .next (s.aluImm .and n)

/-- `XOR n8` (R298). -/
def execXor_n8 (n : Byte) (s : State) : Result := .next (s.aluImm .xor n)

/-- `OR n8` (R301). -/
def execOr_n8 (n : Byte) (s : State) : Result := .next (s.aluImm .or n)

/-- `CP n8` (R304). -/
def execCp_n8 (n : Byte) (s : State) : Result := .next (s.aluImm .cp n)

end Sys2Proof.Machine
end

