-- ==== Sys2Proof/Machine/BitOps.lean ====
section
/-! DEFINITION. Bit test, clear and set (45_rotate_shift_bit.md, R343–R345): one meaning for each row. -/

namespace Sys2Proof.Machine

/-- BIT b (R343): the operand is read and not written. -/
def State.testBit (s : State) (b : Nat) (z : Loc8) : State :=
  (s.readLoc z).run fun v s => (s.setFlags (bitFlags b v s.flags)).charge (locTestCycles z)

/-- RES b (R344). -/
def State.clearBit (s : State) (b : Nat) (z : Loc8) : State := s.modifyPlain z (resBit b) (locCycles z)

/-- SET b (R345). -/
def State.setBitAt (s : State) (b : Nat) (z : Loc8) : State := s.modifyPlain z (setBit b) (locCycles z)

/-- `BIT 0,B` (R343). -/
def execBit_0_b (s : State) : Result := .next (s.testBit 0 (.reg .b))

/-- `BIT 0,C` (R343). -/
def execBit_0_c (s : State) : Result := .next (s.testBit 0 (.reg .c))

/-- `BIT 0,D` (R343). -/
def execBit_0_d (s : State) : Result := .next (s.testBit 0 (.reg .d))

/-- `BIT 0,E` (R343). -/
def execBit_0_e (s : State) : Result := .next (s.testBit 0 (.reg .e))

/-- `BIT 0,H` (R343). -/
def execBit_0_h (s : State) : Result := .next (s.testBit 0 (.reg .h))

/-- `BIT 0,L` (R343). -/
def execBit_0_l (s : State) : Result := .next (s.testBit 0 (.reg .l))

/-- `BIT 0,(HL)` (R343). -/
def execBit_0_mhl (s : State) : Result := .next (s.testBit 0 .mhl)

/-- `BIT 0,A` (R343). -/
def execBit_0_a (s : State) : Result := .next (s.testBit 0 (.reg .a))

/-- `BIT 1,B` (R343). -/
def execBit_1_b (s : State) : Result := .next (s.testBit 1 (.reg .b))

/-- `BIT 1,C` (R343). -/
def execBit_1_c (s : State) : Result := .next (s.testBit 1 (.reg .c))

/-- `BIT 1,D` (R343). -/
def execBit_1_d (s : State) : Result := .next (s.testBit 1 (.reg .d))

/-- `BIT 1,E` (R343). -/
def execBit_1_e (s : State) : Result := .next (s.testBit 1 (.reg .e))

/-- `BIT 1,H` (R343). -/
def execBit_1_h (s : State) : Result := .next (s.testBit 1 (.reg .h))

/-- `BIT 1,L` (R343). -/
def execBit_1_l (s : State) : Result := .next (s.testBit 1 (.reg .l))

/-- `BIT 1,(HL)` (R343). -/
def execBit_1_mhl (s : State) : Result := .next (s.testBit 1 .mhl)

/-- `BIT 1,A` (R343). -/
def execBit_1_a (s : State) : Result := .next (s.testBit 1 (.reg .a))

/-- `BIT 2,B` (R343). -/
def execBit_2_b (s : State) : Result := .next (s.testBit 2 (.reg .b))

/-- `BIT 2,C` (R343). -/
def execBit_2_c (s : State) : Result := .next (s.testBit 2 (.reg .c))

/-- `BIT 2,D` (R343). -/
def execBit_2_d (s : State) : Result := .next (s.testBit 2 (.reg .d))

/-- `BIT 2,E` (R343). -/
def execBit_2_e (s : State) : Result := .next (s.testBit 2 (.reg .e))

/-- `BIT 2,H` (R343). -/
def execBit_2_h (s : State) : Result := .next (s.testBit 2 (.reg .h))

/-- `BIT 2,L` (R343). -/
def execBit_2_l (s : State) : Result := .next (s.testBit 2 (.reg .l))

/-- `BIT 2,(HL)` (R343). -/
def execBit_2_mhl (s : State) : Result := .next (s.testBit 2 .mhl)

/-- `BIT 2,A` (R343). -/
def execBit_2_a (s : State) : Result := .next (s.testBit 2 (.reg .a))

/-- `BIT 3,B` (R343). -/
def execBit_3_b (s : State) : Result := .next (s.testBit 3 (.reg .b))

/-- `BIT 3,C` (R343). -/
def execBit_3_c (s : State) : Result := .next (s.testBit 3 (.reg .c))

/-- `BIT 3,D` (R343). -/
def execBit_3_d (s : State) : Result := .next (s.testBit 3 (.reg .d))

/-- `BIT 3,E` (R343). -/
def execBit_3_e (s : State) : Result := .next (s.testBit 3 (.reg .e))

/-- `BIT 3,H` (R343). -/
def execBit_3_h (s : State) : Result := .next (s.testBit 3 (.reg .h))

/-- `BIT 3,L` (R343). -/
def execBit_3_l (s : State) : Result := .next (s.testBit 3 (.reg .l))

/-- `BIT 3,(HL)` (R343). -/
def execBit_3_mhl (s : State) : Result := .next (s.testBit 3 .mhl)

/-- `BIT 3,A` (R343). -/
def execBit_3_a (s : State) : Result := .next (s.testBit 3 (.reg .a))

/-- `BIT 4,B` (R343). -/
def execBit_4_b (s : State) : Result := .next (s.testBit 4 (.reg .b))

/-- `BIT 4,C` (R343). -/
def execBit_4_c (s : State) : Result := .next (s.testBit 4 (.reg .c))

/-- `BIT 4,D` (R343). -/
def execBit_4_d (s : State) : Result := .next (s.testBit 4 (.reg .d))

/-- `BIT 4,E` (R343). -/
def execBit_4_e (s : State) : Result := .next (s.testBit 4 (.reg .e))

/-- `BIT 4,H` (R343). -/
def execBit_4_h (s : State) : Result := .next (s.testBit 4 (.reg .h))

/-- `BIT 4,L` (R343). -/
def execBit_4_l (s : State) : Result := .next (s.testBit 4 (.reg .l))

/-- `BIT 4,(HL)` (R343). -/
def execBit_4_mhl (s : State) : Result := .next (s.testBit 4 .mhl)

/-- `BIT 4,A` (R343). -/
def execBit_4_a (s : State) : Result := .next (s.testBit 4 (.reg .a))

/-- `BIT 5,B` (R343). -/
def execBit_5_b (s : State) : Result := .next (s.testBit 5 (.reg .b))

/-- `BIT 5,C` (R343). -/
def execBit_5_c (s : State) : Result := .next (s.testBit 5 (.reg .c))

/-- `BIT 5,D` (R343). -/
def execBit_5_d (s : State) : Result := .next (s.testBit 5 (.reg .d))

/-- `BIT 5,E` (R343). -/
def execBit_5_e (s : State) : Result := .next (s.testBit 5 (.reg .e))

/-- `BIT 5,H` (R343). -/
def execBit_5_h (s : State) : Result := .next (s.testBit 5 (.reg .h))

/-- `BIT 5,L` (R343). -/
def execBit_5_l (s : State) : Result := .next (s.testBit 5 (.reg .l))

/-- `BIT 5,(HL)` (R343). -/
def execBit_5_mhl (s : State) : Result := .next (s.testBit 5 .mhl)

/-- `BIT 5,A` (R343). -/
def execBit_5_a (s : State) : Result := .next (s.testBit 5 (.reg .a))

/-- `BIT 6,B` (R343). -/
def execBit_6_b (s : State) : Result := .next (s.testBit 6 (.reg .b))

/-- `BIT 6,C` (R343). -/
def execBit_6_c (s : State) : Result := .next (s.testBit 6 (.reg .c))

/-- `BIT 6,D` (R343). -/
def execBit_6_d (s : State) : Result := .next (s.testBit 6 (.reg .d))

/-- `BIT 6,E` (R343). -/
def execBit_6_e (s : State) : Result := .next (s.testBit 6 (.reg .e))

/-- `BIT 6,H` (R343). -/
def execBit_6_h (s : State) : Result := .next (s.testBit 6 (.reg .h))

/-- `BIT 6,L` (R343). -/
def execBit_6_l (s : State) : Result := .next (s.testBit 6 (.reg .l))

/-- `BIT 6,(HL)` (R343). -/
def execBit_6_mhl (s : State) : Result := .next (s.testBit 6 .mhl)

/-- `BIT 6,A` (R343). -/
def execBit_6_a (s : State) : Result := .next (s.testBit 6 (.reg .a))

/-- `BIT 7,B` (R343). -/
def execBit_7_b (s : State) : Result := .next (s.testBit 7 (.reg .b))

/-- `BIT 7,C` (R343). -/
def execBit_7_c (s : State) : Result := .next (s.testBit 7 (.reg .c))

/-- `BIT 7,D` (R343). -/
def execBit_7_d (s : State) : Result := .next (s.testBit 7 (.reg .d))

/-- `BIT 7,E` (R343). -/
def execBit_7_e (s : State) : Result := .next (s.testBit 7 (.reg .e))

/-- `BIT 7,H` (R343). -/
def execBit_7_h (s : State) : Result := .next (s.testBit 7 (.reg .h))

/-- `BIT 7,L` (R343). -/
def execBit_7_l (s : State) : Result := .next (s.testBit 7 (.reg .l))

/-- `BIT 7,(HL)` (R343). -/
def execBit_7_mhl (s : State) : Result := .next (s.testBit 7 .mhl)

/-- `BIT 7,A` (R343). -/
def execBit_7_a (s : State) : Result := .next (s.testBit 7 (.reg .a))

/-- `RES 0,B` (R344). -/
def execRes_0_b (s : State) : Result := .next (s.clearBit 0 (.reg .b))

/-- `RES 0,C` (R344). -/
def execRes_0_c (s : State) : Result := .next (s.clearBit 0 (.reg .c))

/-- `RES 0,D` (R344). -/
def execRes_0_d (s : State) : Result := .next (s.clearBit 0 (.reg .d))

/-- `RES 0,E` (R344). -/
def execRes_0_e (s : State) : Result := .next (s.clearBit 0 (.reg .e))

/-- `RES 0,H` (R344). -/
def execRes_0_h (s : State) : Result := .next (s.clearBit 0 (.reg .h))

/-- `RES 0,L` (R344). -/
def execRes_0_l (s : State) : Result := .next (s.clearBit 0 (.reg .l))

/-- `RES 0,(HL)` (R344). -/
def execRes_0_mhl (s : State) : Result := .next (s.clearBit 0 .mhl)

/-- `RES 0,A` (R344). -/
def execRes_0_a (s : State) : Result := .next (s.clearBit 0 (.reg .a))

/-- `RES 1,B` (R344). -/
def execRes_1_b (s : State) : Result := .next (s.clearBit 1 (.reg .b))

/-- `RES 1,C` (R344). -/
def execRes_1_c (s : State) : Result := .next (s.clearBit 1 (.reg .c))

/-- `RES 1,D` (R344). -/
def execRes_1_d (s : State) : Result := .next (s.clearBit 1 (.reg .d))

/-- `RES 1,E` (R344). -/
def execRes_1_e (s : State) : Result := .next (s.clearBit 1 (.reg .e))

/-- `RES 1,H` (R344). -/
def execRes_1_h (s : State) : Result := .next (s.clearBit 1 (.reg .h))

/-- `RES 1,L` (R344). -/
def execRes_1_l (s : State) : Result := .next (s.clearBit 1 (.reg .l))

/-- `RES 1,(HL)` (R344). -/
def execRes_1_mhl (s : State) : Result := .next (s.clearBit 1 .mhl)

/-- `RES 1,A` (R344). -/
def execRes_1_a (s : State) : Result := .next (s.clearBit 1 (.reg .a))

/-- `RES 2,B` (R344). -/
def execRes_2_b (s : State) : Result := .next (s.clearBit 2 (.reg .b))

/-- `RES 2,C` (R344). -/
def execRes_2_c (s : State) : Result := .next (s.clearBit 2 (.reg .c))

/-- `RES 2,D` (R344). -/
def execRes_2_d (s : State) : Result := .next (s.clearBit 2 (.reg .d))

/-- `RES 2,E` (R344). -/
def execRes_2_e (s : State) : Result := .next (s.clearBit 2 (.reg .e))

/-- `RES 2,H` (R344). -/
def execRes_2_h (s : State) : Result := .next (s.clearBit 2 (.reg .h))

/-- `RES 2,L` (R344). -/
def execRes_2_l (s : State) : Result := .next (s.clearBit 2 (.reg .l))

/-- `RES 2,(HL)` (R344). -/
def execRes_2_mhl (s : State) : Result := .next (s.clearBit 2 .mhl)

/-- `RES 2,A` (R344). -/
def execRes_2_a (s : State) : Result := .next (s.clearBit 2 (.reg .a))

/-- `RES 3,B` (R344). -/
def execRes_3_b (s : State) : Result := .next (s.clearBit 3 (.reg .b))

/-- `RES 3,C` (R344). -/
def execRes_3_c (s : State) : Result := .next (s.clearBit 3 (.reg .c))

/-- `RES 3,D` (R344). -/
def execRes_3_d (s : State) : Result := .next (s.clearBit 3 (.reg .d))

/-- `RES 3,E` (R344). -/
def execRes_3_e (s : State) : Result := .next (s.clearBit 3 (.reg .e))

/-- `RES 3,H` (R344). -/
def execRes_3_h (s : State) : Result := .next (s.clearBit 3 (.reg .h))

/-- `RES 3,L` (R344). -/
def execRes_3_l (s : State) : Result := .next (s.clearBit 3 (.reg .l))

/-- `RES 3,(HL)` (R344). -/
def execRes_3_mhl (s : State) : Result := .next (s.clearBit 3 .mhl)

/-- `RES 3,A` (R344). -/
def execRes_3_a (s : State) : Result := .next (s.clearBit 3 (.reg .a))

/-- `RES 4,B` (R344). -/
def execRes_4_b (s : State) : Result := .next (s.clearBit 4 (.reg .b))

/-- `RES 4,C` (R344). -/
def execRes_4_c (s : State) : Result := .next (s.clearBit 4 (.reg .c))

/-- `RES 4,D` (R344). -/
def execRes_4_d (s : State) : Result := .next (s.clearBit 4 (.reg .d))

/-- `RES 4,E` (R344). -/
def execRes_4_e (s : State) : Result := .next (s.clearBit 4 (.reg .e))

/-- `RES 4,H` (R344). -/
def execRes_4_h (s : State) : Result := .next (s.clearBit 4 (.reg .h))

/-- `RES 4,L` (R344). -/
def execRes_4_l (s : State) : Result := .next (s.clearBit 4 (.reg .l))

/-- `RES 4,(HL)` (R344). -/
def execRes_4_mhl (s : State) : Result := .next (s.clearBit 4 .mhl)

/-- `RES 4,A` (R344). -/
def execRes_4_a (s : State) : Result := .next (s.clearBit 4 (.reg .a))

/-- `RES 5,B` (R344). -/
def execRes_5_b (s : State) : Result := .next (s.clearBit 5 (.reg .b))

/-- `RES 5,C` (R344). -/
def execRes_5_c (s : State) : Result := .next (s.clearBit 5 (.reg .c))

/-- `RES 5,D` (R344). -/
def execRes_5_d (s : State) : Result := .next (s.clearBit 5 (.reg .d))

/-- `RES 5,E` (R344). -/
def execRes_5_e (s : State) : Result := .next (s.clearBit 5 (.reg .e))

/-- `RES 5,H` (R344). -/
def execRes_5_h (s : State) : Result := .next (s.clearBit 5 (.reg .h))

/-- `RES 5,L` (R344). -/
def execRes_5_l (s : State) : Result := .next (s.clearBit 5 (.reg .l))

/-- `RES 5,(HL)` (R344). -/
def execRes_5_mhl (s : State) : Result := .next (s.clearBit 5 .mhl)

/-- `RES 5,A` (R344). -/
def execRes_5_a (s : State) : Result := .next (s.clearBit 5 (.reg .a))

/-- `RES 6,B` (R344). -/
def execRes_6_b (s : State) : Result := .next (s.clearBit 6 (.reg .b))

/-- `RES 6,C` (R344). -/
def execRes_6_c (s : State) : Result := .next (s.clearBit 6 (.reg .c))

/-- `RES 6,D` (R344). -/
def execRes_6_d (s : State) : Result := .next (s.clearBit 6 (.reg .d))

/-- `RES 6,E` (R344). -/
def execRes_6_e (s : State) : Result := .next (s.clearBit 6 (.reg .e))

/-- `RES 6,H` (R344). -/
def execRes_6_h (s : State) : Result := .next (s.clearBit 6 (.reg .h))

/-- `RES 6,L` (R344). -/
def execRes_6_l (s : State) : Result := .next (s.clearBit 6 (.reg .l))

/-- `RES 6,(HL)` (R344). -/
def execRes_6_mhl (s : State) : Result := .next (s.clearBit 6 .mhl)

/-- `RES 6,A` (R344). -/
def execRes_6_a (s : State) : Result := .next (s.clearBit 6 (.reg .a))

/-- `RES 7,B` (R344). -/
def execRes_7_b (s : State) : Result := .next (s.clearBit 7 (.reg .b))

/-- `RES 7,C` (R344). -/
def execRes_7_c (s : State) : Result := .next (s.clearBit 7 (.reg .c))

/-- `RES 7,D` (R344). -/
def execRes_7_d (s : State) : Result := .next (s.clearBit 7 (.reg .d))

/-- `RES 7,E` (R344). -/
def execRes_7_e (s : State) : Result := .next (s.clearBit 7 (.reg .e))

/-- `RES 7,H` (R344). -/
def execRes_7_h (s : State) : Result := .next (s.clearBit 7 (.reg .h))

/-- `RES 7,L` (R344). -/
def execRes_7_l (s : State) : Result := .next (s.clearBit 7 (.reg .l))

/-- `RES 7,(HL)` (R344). -/
def execRes_7_mhl (s : State) : Result := .next (s.clearBit 7 .mhl)

/-- `RES 7,A` (R344). -/
def execRes_7_a (s : State) : Result := .next (s.clearBit 7 (.reg .a))

/-- `SET 0,B` (R345). -/
def execSet_0_b (s : State) : Result := .next (s.setBitAt 0 (.reg .b))

/-- `SET 0,C` (R345). -/
def execSet_0_c (s : State) : Result := .next (s.setBitAt 0 (.reg .c))

/-- `SET 0,D` (R345). -/
def execSet_0_d (s : State) : Result := .next (s.setBitAt 0 (.reg .d))

/-- `SET 0,E` (R345). -/
def execSet_0_e (s : State) : Result := .next (s.setBitAt 0 (.reg .e))

/-- `SET 0,H` (R345). -/
def execSet_0_h (s : State) : Result := .next (s.setBitAt 0 (.reg .h))

/-- `SET 0,L` (R345). -/
def execSet_0_l (s : State) : Result := .next (s.setBitAt 0 (.reg .l))

/-- `SET 0,(HL)` (R345). -/
def execSet_0_mhl (s : State) : Result := .next (s.setBitAt 0 .mhl)

/-- `SET 0,A` (R345). -/
def execSet_0_a (s : State) : Result := .next (s.setBitAt 0 (.reg .a))

/-- `SET 1,B` (R345). -/
def execSet_1_b (s : State) : Result := .next (s.setBitAt 1 (.reg .b))

/-- `SET 1,C` (R345). -/
def execSet_1_c (s : State) : Result := .next (s.setBitAt 1 (.reg .c))

/-- `SET 1,D` (R345). -/
def execSet_1_d (s : State) : Result := .next (s.setBitAt 1 (.reg .d))

/-- `SET 1,E` (R345). -/
def execSet_1_e (s : State) : Result := .next (s.setBitAt 1 (.reg .e))

/-- `SET 1,H` (R345). -/
def execSet_1_h (s : State) : Result := .next (s.setBitAt 1 (.reg .h))

/-- `SET 1,L` (R345). -/
def execSet_1_l (s : State) : Result := .next (s.setBitAt 1 (.reg .l))

/-- `SET 1,(HL)` (R345). -/
def execSet_1_mhl (s : State) : Result := .next (s.setBitAt 1 .mhl)

/-- `SET 1,A` (R345). -/
def execSet_1_a (s : State) : Result := .next (s.setBitAt 1 (.reg .a))

/-- `SET 2,B` (R345). -/
def execSet_2_b (s : State) : Result := .next (s.setBitAt 2 (.reg .b))

/-- `SET 2,C` (R345). -/
def execSet_2_c (s : State) : Result := .next (s.setBitAt 2 (.reg .c))

/-- `SET 2,D` (R345). -/
def execSet_2_d (s : State) : Result := .next (s.setBitAt 2 (.reg .d))

/-- `SET 2,E` (R345). -/
def execSet_2_e (s : State) : Result := .next (s.setBitAt 2 (.reg .e))

/-- `SET 2,H` (R345). -/
def execSet_2_h (s : State) : Result := .next (s.setBitAt 2 (.reg .h))

/-- `SET 2,L` (R345). -/
def execSet_2_l (s : State) : Result := .next (s.setBitAt 2 (.reg .l))

/-- `SET 2,(HL)` (R345). -/
def execSet_2_mhl (s : State) : Result := .next (s.setBitAt 2 .mhl)

/-- `SET 2,A` (R345). -/
def execSet_2_a (s : State) : Result := .next (s.setBitAt 2 (.reg .a))

/-- `SET 3,B` (R345). -/
def execSet_3_b (s : State) : Result := .next (s.setBitAt 3 (.reg .b))

/-- `SET 3,C` (R345). -/
def execSet_3_c (s : State) : Result := .next (s.setBitAt 3 (.reg .c))

/-- `SET 3,D` (R345). -/
def execSet_3_d (s : State) : Result := .next (s.setBitAt 3 (.reg .d))

/-- `SET 3,E` (R345). -/
def execSet_3_e (s : State) : Result := .next (s.setBitAt 3 (.reg .e))

/-- `SET 3,H` (R345). -/
def execSet_3_h (s : State) : Result := .next (s.setBitAt 3 (.reg .h))

/-- `SET 3,L` (R345). -/
def execSet_3_l (s : State) : Result := .next (s.setBitAt 3 (.reg .l))

/-- `SET 3,(HL)` (R345). -/
def execSet_3_mhl (s : State) : Result := .next (s.setBitAt 3 .mhl)

/-- `SET 3,A` (R345). -/
def execSet_3_a (s : State) : Result := .next (s.setBitAt 3 (.reg .a))

/-- `SET 4,B` (R345). -/
def execSet_4_b (s : State) : Result := .next (s.setBitAt 4 (.reg .b))

/-- `SET 4,C` (R345). -/
def execSet_4_c (s : State) : Result := .next (s.setBitAt 4 (.reg .c))

/-- `SET 4,D` (R345). -/
def execSet_4_d (s : State) : Result := .next (s.setBitAt 4 (.reg .d))

/-- `SET 4,E` (R345). -/
def execSet_4_e (s : State) : Result := .next (s.setBitAt 4 (.reg .e))

/-- `SET 4,H` (R345). -/
def execSet_4_h (s : State) : Result := .next (s.setBitAt 4 (.reg .h))

/-- `SET 4,L` (R345). -/
def execSet_4_l (s : State) : Result := .next (s.setBitAt 4 (.reg .l))

/-- `SET 4,(HL)` (R345). -/
def execSet_4_mhl (s : State) : Result := .next (s.setBitAt 4 .mhl)

/-- `SET 4,A` (R345). -/
def execSet_4_a (s : State) : Result := .next (s.setBitAt 4 (.reg .a))

/-- `SET 5,B` (R345). -/
def execSet_5_b (s : State) : Result := .next (s.setBitAt 5 (.reg .b))

/-- `SET 5,C` (R345). -/
def execSet_5_c (s : State) : Result := .next (s.setBitAt 5 (.reg .c))

/-- `SET 5,D` (R345). -/
def execSet_5_d (s : State) : Result := .next (s.setBitAt 5 (.reg .d))

/-- `SET 5,E` (R345). -/
def execSet_5_e (s : State) : Result := .next (s.setBitAt 5 (.reg .e))

/-- `SET 5,H` (R345). -/
def execSet_5_h (s : State) : Result := .next (s.setBitAt 5 (.reg .h))

/-- `SET 5,L` (R345). -/
def execSet_5_l (s : State) : Result := .next (s.setBitAt 5 (.reg .l))

/-- `SET 5,(HL)` (R345). -/
def execSet_5_mhl (s : State) : Result := .next (s.setBitAt 5 .mhl)

/-- `SET 5,A` (R345). -/
def execSet_5_a (s : State) : Result := .next (s.setBitAt 5 (.reg .a))

/-- `SET 6,B` (R345). -/
def execSet_6_b (s : State) : Result := .next (s.setBitAt 6 (.reg .b))

/-- `SET 6,C` (R345). -/
def execSet_6_c (s : State) : Result := .next (s.setBitAt 6 (.reg .c))

/-- `SET 6,D` (R345). -/
def execSet_6_d (s : State) : Result := .next (s.setBitAt 6 (.reg .d))

/-- `SET 6,E` (R345). -/
def execSet_6_e (s : State) : Result := .next (s.setBitAt 6 (.reg .e))

/-- `SET 6,H` (R345). -/
def execSet_6_h (s : State) : Result := .next (s.setBitAt 6 (.reg .h))

/-- `SET 6,L` (R345). -/
def execSet_6_l (s : State) : Result := .next (s.setBitAt 6 (.reg .l))

/-- `SET 6,(HL)` (R345). -/
def execSet_6_mhl (s : State) : Result := .next (s.setBitAt 6 .mhl)

/-- `SET 6,A` (R345). -/
def execSet_6_a (s : State) : Result := .next (s.setBitAt 6 (.reg .a))

/-- `SET 7,B` (R345). -/
def execSet_7_b (s : State) : Result := .next (s.setBitAt 7 (.reg .b))

/-- `SET 7,C` (R345). -/
def execSet_7_c (s : State) : Result := .next (s.setBitAt 7 (.reg .c))

/-- `SET 7,D` (R345). -/
def execSet_7_d (s : State) : Result := .next (s.setBitAt 7 (.reg .d))

/-- `SET 7,E` (R345). -/
def execSet_7_e (s : State) : Result := .next (s.setBitAt 7 (.reg .e))

/-- `SET 7,H` (R345). -/
def execSet_7_h (s : State) : Result := .next (s.setBitAt 7 (.reg .h))

/-- `SET 7,L` (R345). -/
def execSet_7_l (s : State) : Result := .next (s.setBitAt 7 (.reg .l))

/-- `SET 7,(HL)` (R345). -/
def execSet_7_mhl (s : State) : Result := .next (s.setBitAt 7 .mhl)

/-- `SET 7,A` (R345). -/
def execSet_7_a (s : State) : Result := .next (s.setBitAt 7 (.reg .a))

end Sys2Proof.Machine
end

