-- ==== Sys2Proof/Machine/Control.lean ====
section
/-! DEFINITION. Control transfer (46_control.md, R360–R376): one meaning for each row. PC is already the address of the
next sequential instruction (R221). -/

namespace Sys2Proof.Machine

/-- A jump to an absolute address (R361, R363). -/
def State.jump (s : State) (a : Word) (n : Nat) : State := (s.setPc a).charge n

/-- A conditional absolute jump: 4 machine cycles if taken, 3 if not (R362). -/
def State.jumpIf (s : State) (cc : Cond) (a : Word) : State := if s.cond cc then s.jump a 4 else s.charge 3

/-- A relative jump by a signed byte (R364). -/
def State.jumpRel (s : State) (e : Byte) : State := s.jump (s.regs.pc + sext16 e) 3

/-- A conditional relative jump: 3 machine cycles if taken, 2 if not (R365). -/
def State.jumpRelIf (s : State) (cc : Cond) (e : Byte) : State := if s.cond cc then s.jumpRel e else s.charge 2

/-- A call: PC pushed, then the jump (R366, R370). -/
def State.call (s : State) (a : Word) (n : Nat) : State := (s.push16 s.regs.pc).run fun _ s => s.jump a n

/-- A conditional call: 6 machine cycles if taken, 3 if not (R367). -/
def State.callIf (s : State) (cc : Cond) (a : Word) : State := if s.cond cc then s.call a 6 else s.charge 3

/-- A return: PC popped (R368). -/
def State.ret (s : State) (n : Nat) : State := s.pop16.run fun pc s => s.jump pc n

/-- A conditional return: 5 machine cycles if taken, 2 if not (R369). -/
def State.retIf (s : State) (cc : Cond) : State := if s.cond cc then s.ret 5 else s.charge 2

/-- `JR e8` (R364). -/
def execJr_e8 (e : Byte) (s : State) : Result := .next (s.jumpRel e)

/-- `JR NZ,e8` (R365). -/
def execJr_nz_e8 (e : Byte) (s : State) : Result := .next (s.jumpRelIf .nz e)

/-- `JR Z,e8` (R365). -/
def execJr_z_e8 (e : Byte) (s : State) : Result := .next (s.jumpRelIf .z e)

/-- `JR NC,e8` (R365). -/
def execJr_nc_e8 (e : Byte) (s : State) : Result := .next (s.jumpRelIf .nc e)

/-- `JR C,e8` (R365). -/
def execJr_c_e8 (e : Byte) (s : State) : Result := .next (s.jumpRelIf .c e)

/-- `RET NZ` (R369). -/
def execRet_nz (s : State) : Result := .next (s.retIf .nz)

/-- `JP NZ,a16` (R362). -/
def execJp_nz_a16 (n : Word) (s : State) : Result := .next (s.jumpIf .nz n)

/-- `JP a16` (R361). -/
def execJp_a16 (n : Word) (s : State) : Result := .next (s.jump n 4)

/-- `CALL NZ,a16` (R367). -/
def execCall_nz_a16 (n : Word) (s : State) : Result := .next (s.callIf .nz n)

/-- `RST 0x00` (R370). -/
def execRst_00 (s : State) : Result := .next (s.call 0x0000#16 4)

/-- `RET Z` (R369). -/
def execRet_z (s : State) : Result := .next (s.retIf .z)

/-- `RET` (R368). -/
def execRet (s : State) : Result := .next (s.ret 4)

/-- `JP Z,a16` (R362). -/
def execJp_z_a16 (n : Word) (s : State) : Result := .next (s.jumpIf .z n)

/-- `CALL Z,a16` (R367). -/
def execCall_z_a16 (n : Word) (s : State) : Result := .next (s.callIf .z n)

/-- `CALL a16` (R366). -/
def execCall_a16 (n : Word) (s : State) : Result := .next (s.call n 6)

/-- `RST 0x08` (R370). -/
def execRst_08 (s : State) : Result := .next (s.call 0x0008#16 4)

/-- `RET NC` (R369). -/
def execRet_nc (s : State) : Result := .next (s.retIf .nc)

/-- `JP NC,a16` (R362). -/
def execJp_nc_a16 (n : Word) (s : State) : Result := .next (s.jumpIf .nc n)

/-- `CALL NC,a16` (R367). -/
def execCall_nc_a16 (n : Word) (s : State) : Result := .next (s.callIf .nc n)

/-- `RST 0x10` (R370). -/
def execRst_10 (s : State) : Result := .next (s.call 0x0010#16 4)

/-- `RET C` (R369). -/
def execRet_c (s : State) : Result := .next (s.retIf .c)

/-- `RETI` (R376). -/
def execReti (s : State) : Result := .next (s.returnFromInterrupt.run fun _ s => s.charge 4)

/-- `JP C,a16` (R362). -/
def execJp_c_a16 (n : Word) (s : State) : Result := .next (s.jumpIf .c n)

/-- `CALL C,a16` (R367). -/
def execCall_c_a16 (n : Word) (s : State) : Result := .next (s.callIf .c n)

/-- `RST 0x18` (R370). -/
def execRst_18 (s : State) : Result := .next (s.call 0x0018#16 4)

/-- `RST 0x20` (R370). -/
def execRst_20 (s : State) : Result := .next (s.call 0x0020#16 4)

/-- `JP HL` (R363). -/
def execJp_hl (s : State) : Result := .next (s.jump s.regs.hl 1)

/-- `RST 0x28` (R370). -/
def execRst_28 (s : State) : Result := .next (s.call 0x0028#16 4)

/-- `RST 0x30` (R370). -/
def execRst_30 (s : State) : Result := .next (s.call 0x0030#16 4)

/-- `RST 0x38` (R370). -/
def execRst_38 (s : State) : Result := .next (s.call 0x0038#16 4)

end Sys2Proof.Machine
end

