-- ==== Sys2Proof/Machine/Load16.lean ====
section
/-! DEFINITION. The 16-bit loads and the stack (42_load16_stack.md, R260–R266): one meaning for each row. -/

namespace Sys2Proof.Machine

/-- A 16-bit immediate to a register pair (R260). -/
def State.loadImm16 (s : State) (r : Reg16) (n : Word) : State := (s.setR16 r n).charge 3

/-- SP stored, low byte first (R261). -/
def State.storeSp (s : State) (a : Word) : State :=
  ((s.write a (loByte s.regs.sp)).andThen fun _ s => s.write (a + 1) (hiByte s.regs.sp)).run fun _ s => s.charge 5

/-- HL copied to SP (R262). -/
def State.copyHlToSp (s : State) : State := (s.setR16 .sp s.regs.hl).charge 2

/-- SP plus a signed byte to HL (R263). -/
def State.loadHlSp (s : State) (e : Byte) : State :=
  let r := addSp s.regs.sp e
  ((s.setR16 .hl r.1).setFlags r.2).charge 3

/-- A register pair pushed (R264). -/
def State.pushReg (s : State) (r : Reg16) : State := (s.push16 (s.r16 r)).run fun _ s => s.charge 4

/-- A register pair popped; AF masks F's low nibble (R265, R266). -/
def State.popReg (s : State) (r : Reg16) : State := s.pop16.run fun v s => (s.setR16 r v).charge 3

/-- `LD BC,n16` (R260). -/
def execLd_bc_n16 (n : Word) (s : State) : Result := .next (s.loadImm16 .bc n)

/-- `LD (a16),SP` (R261). -/
def execLd_ma16_sp (n : Word) (s : State) : Result := .next (s.storeSp n)

/-- `LD DE,n16` (R260). -/
def execLd_de_n16 (n : Word) (s : State) : Result := .next (s.loadImm16 .de n)

/-- `LD HL,n16` (R260). -/
def execLd_hl_n16 (n : Word) (s : State) : Result := .next (s.loadImm16 .hl n)

/-- `LD SP,n16` (R260). -/
def execLd_sp_n16 (n : Word) (s : State) : Result := .next (s.loadImm16 .sp n)

/-- `POP BC` (R266). -/
def execPop_bc (s : State) : Result := .next (s.popReg .bc)

/-- `PUSH BC` (R264). -/
def execPush_bc (s : State) : Result := .next (s.pushReg .bc)

/-- `POP DE` (R266). -/
def execPop_de (s : State) : Result := .next (s.popReg .de)

/-- `PUSH DE` (R264). -/
def execPush_de (s : State) : Result := .next (s.pushReg .de)

/-- `POP HL` (R266). -/
def execPop_hl (s : State) : Result := .next (s.popReg .hl)

/-- `PUSH HL` (R264). -/
def execPush_hl (s : State) : Result := .next (s.pushReg .hl)

/-- `POP AF` (R265). -/
def execPop_af (s : State) : Result := .next (s.popReg .af)

/-- `PUSH AF` (R264). -/
def execPush_af (s : State) : Result := .next (s.pushReg .af)

/-- `LD HL,SP+e8` (R263). -/
def execLd_hl_sp_e8 (e : Byte) (s : State) : Result := .next (s.loadHlSp e)

/-- `LD SP,HL` (R262). -/
def execLd_sp_hl (s : State) : Result := .next (s.copyHlToSp)

end Sys2Proof.Machine
end

