-- ==== Sys2Proof/Machine/Load8.lean ====
section
/-! DEFINITION. The 8-bit loads (41_load8.md, R230–R249): one meaning for each row. An 8-bit load moves one byte unchanged
and changes no flag (R230); PC is already past the instruction (R221). -/

namespace Sys2Proof.Machine

/-- Register to register (R231). -/
def State.copyReg (s : State) (r r' : Reg8) : State := (s.setR8 r (s.r8 r')).charge 1

/-- An immediate byte to a register (R232). -/
def State.loadImm (s : State) (r : Reg8) (n : Byte) : State := (s.setR8 r n).charge 2

/-- A stored at HL, then HL moved by `d` (R240, R241). -/
def State.storeStep (s : State) (d : Word) : State :=
  (s.write s.regs.hl (s.r8 .a)).run fun _ s => (s.setR16 .hl (s.regs.hl + d)).charge 2

/-- A loaded from HL, then HL moved by `d` (R242, R243). -/
def State.loadStep (s : State) (d : Word) : State :=
  (s.read s.regs.hl).run fun v s =>
    let s := s.setR8 .a v
    (s.setR16 .hl (s.regs.hl + d)).charge 2

/-- `LD (BC),A` (R238). -/
def execLd_mbc_a (s : State) : Result := .next (s.storeTo s.regs.bc (s.r8 .a) 2)

/-- `LD B,n8` (R232). -/
def execLd_b_n8 (n : Byte) (s : State) : Result := .next (s.loadImm .b n)

/-- `LD A,(BC)` (R236). -/
def execLd_a_mbc (s : State) : Result := .next (s.loadFrom .a s.regs.bc 2)

/-- `LD C,n8` (R232). -/
def execLd_c_n8 (n : Byte) (s : State) : Result := .next (s.loadImm .c n)

/-- `LD (DE),A` (R239). -/
def execLd_mde_a (s : State) : Result := .next (s.storeTo s.regs.de (s.r8 .a) 2)

/-- `LD D,n8` (R232). -/
def execLd_d_n8 (n : Byte) (s : State) : Result := .next (s.loadImm .d n)

/-- `LD A,(DE)` (R237). -/
def execLd_a_mde (s : State) : Result := .next (s.loadFrom .a s.regs.de 2)

/-- `LD E,n8` (R232). -/
def execLd_e_n8 (n : Byte) (s : State) : Result := .next (s.loadImm .e n)

/-- `LD (HL+),A` (R240). -/
def execLd_mhli_a (s : State) : Result := .next (s.storeStep 1)

/-- `LD H,n8` (R232). -/
def execLd_h_n8 (n : Byte) (s : State) : Result := .next (s.loadImm .h n)

/-- `LD A,(HL+)` (R242). -/
def execLd_a_mhli (s : State) : Result := .next (s.loadStep 1)

/-- `LD L,n8` (R232). -/
def execLd_l_n8 (n : Byte) (s : State) : Result := .next (s.loadImm .l n)

/-- `LD (HL-),A` (R241). -/
def execLd_mhld_a (s : State) : Result := .next (s.storeStep (-1))

/-- `LD (HL),n8` (R235). -/
def execLd_mhl_n8 (n : Byte) (s : State) : Result := .next (s.storeTo s.regs.hl n 3)

/-- `LD A,(HL-)` (R243). -/
def execLd_a_mhld (s : State) : Result := .next (s.loadStep (-1))

/-- `LD A,n8` (R232). -/
def execLd_a_n8 (n : Byte) (s : State) : Result := .next (s.loadImm .a n)

/-- `LD B,B` (R231). -/
def execLd_b_b (s : State) : Result := .next (s.copyReg .b .b)

/-- `LD B,C` (R231). -/
def execLd_b_c (s : State) : Result := .next (s.copyReg .b .c)

/-- `LD B,D` (R231). -/
def execLd_b_d (s : State) : Result := .next (s.copyReg .b .d)

/-- `LD B,E` (R231). -/
def execLd_b_e (s : State) : Result := .next (s.copyReg .b .e)

/-- `LD B,H` (R231). -/
def execLd_b_h (s : State) : Result := .next (s.copyReg .b .h)

/-- `LD B,L` (R231). -/
def execLd_b_l (s : State) : Result := .next (s.copyReg .b .l)

/-- `LD B,(HL)` (R233). -/
def execLd_b_mhl (s : State) : Result := .next (s.loadFrom .b s.regs.hl 2)

/-- `LD B,A` (R231). -/
def execLd_b_a (s : State) : Result := .next (s.copyReg .b .a)

/-- `LD C,B` (R231). -/
def execLd_c_b (s : State) : Result := .next (s.copyReg .c .b)

/-- `LD C,C` (R231). -/
def execLd_c_c (s : State) : Result := .next (s.copyReg .c .c)

/-- `LD C,D` (R231). -/
def execLd_c_d (s : State) : Result := .next (s.copyReg .c .d)

/-- `LD C,E` (R231). -/
def execLd_c_e (s : State) : Result := .next (s.copyReg .c .e)

/-- `LD C,H` (R231). -/
def execLd_c_h (s : State) : Result := .next (s.copyReg .c .h)

/-- `LD C,L` (R231). -/
def execLd_c_l (s : State) : Result := .next (s.copyReg .c .l)

/-- `LD C,(HL)` (R233). -/
def execLd_c_mhl (s : State) : Result := .next (s.loadFrom .c s.regs.hl 2)

/-- `LD C,A` (R231). -/
def execLd_c_a (s : State) : Result := .next (s.copyReg .c .a)

/-- `LD D,B` (R231). -/
def execLd_d_b (s : State) : Result := .next (s.copyReg .d .b)

/-- `LD D,C` (R231). -/
def execLd_d_c (s : State) : Result := .next (s.copyReg .d .c)

/-- `LD D,D` (R231). -/
def execLd_d_d (s : State) : Result := .next (s.copyReg .d .d)

/-- `LD D,E` (R231). -/
def execLd_d_e (s : State) : Result := .next (s.copyReg .d .e)

/-- `LD D,H` (R231). -/
def execLd_d_h (s : State) : Result := .next (s.copyReg .d .h)

/-- `LD D,L` (R231). -/
def execLd_d_l (s : State) : Result := .next (s.copyReg .d .l)

/-- `LD D,(HL)` (R233). -/
def execLd_d_mhl (s : State) : Result := .next (s.loadFrom .d s.regs.hl 2)

/-- `LD D,A` (R231). -/
def execLd_d_a (s : State) : Result := .next (s.copyReg .d .a)

/-- `LD E,B` (R231). -/
def execLd_e_b (s : State) : Result := .next (s.copyReg .e .b)

/-- `LD E,C` (R231). -/
def execLd_e_c (s : State) : Result := .next (s.copyReg .e .c)

/-- `LD E,D` (R231). -/
def execLd_e_d (s : State) : Result := .next (s.copyReg .e .d)

/-- `LD E,E` (R231). -/
def execLd_e_e (s : State) : Result := .next (s.copyReg .e .e)

/-- `LD E,H` (R231). -/
def execLd_e_h (s : State) : Result := .next (s.copyReg .e .h)

/-- `LD E,L` (R231). -/
def execLd_e_l (s : State) : Result := .next (s.copyReg .e .l)

/-- `LD E,(HL)` (R233). -/
def execLd_e_mhl (s : State) : Result := .next (s.loadFrom .e s.regs.hl 2)

/-- `LD E,A` (R231). -/
def execLd_e_a (s : State) : Result := .next (s.copyReg .e .a)

/-- `LD H,B` (R231). -/
def execLd_h_b (s : State) : Result := .next (s.copyReg .h .b)

/-- `LD H,C` (R231). -/
def execLd_h_c (s : State) : Result := .next (s.copyReg .h .c)

/-- `LD H,D` (R231). -/
def execLd_h_d (s : State) : Result := .next (s.copyReg .h .d)

/-- `LD H,E` (R231). -/
def execLd_h_e (s : State) : Result := .next (s.copyReg .h .e)

/-- `LD H,H` (R231). -/
def execLd_h_h (s : State) : Result := .next (s.copyReg .h .h)

/-- `LD H,L` (R231). -/
def execLd_h_l (s : State) : Result := .next (s.copyReg .h .l)

/-- `LD H,(HL)` (R233). -/
def execLd_h_mhl (s : State) : Result := .next (s.loadFrom .h s.regs.hl 2)

/-- `LD H,A` (R231). -/
def execLd_h_a (s : State) : Result := .next (s.copyReg .h .a)

/-- `LD L,B` (R231). -/
def execLd_l_b (s : State) : Result := .next (s.copyReg .l .b)

/-- `LD L,C` (R231). -/
def execLd_l_c (s : State) : Result := .next (s.copyReg .l .c)

/-- `LD L,D` (R231). -/
def execLd_l_d (s : State) : Result := .next (s.copyReg .l .d)

/-- `LD L,E` (R231). -/
def execLd_l_e (s : State) : Result := .next (s.copyReg .l .e)

/-- `LD L,H` (R231). -/
def execLd_l_h (s : State) : Result := .next (s.copyReg .l .h)

/-- `LD L,L` (R231). -/
def execLd_l_l (s : State) : Result := .next (s.copyReg .l .l)

/-- `LD L,(HL)` (R233). -/
def execLd_l_mhl (s : State) : Result := .next (s.loadFrom .l s.regs.hl 2)

/-- `LD L,A` (R231). -/
def execLd_l_a (s : State) : Result := .next (s.copyReg .l .a)

/-- `LD (HL),B` (R234). -/
def execLd_mhl_b (s : State) : Result := .next (s.storeTo s.regs.hl (s.r8 .b) 2)

/-- `LD (HL),C` (R234). -/
def execLd_mhl_c (s : State) : Result := .next (s.storeTo s.regs.hl (s.r8 .c) 2)

/-- `LD (HL),D` (R234). -/
def execLd_mhl_d (s : State) : Result := .next (s.storeTo s.regs.hl (s.r8 .d) 2)

/-- `LD (HL),E` (R234). -/
def execLd_mhl_e (s : State) : Result := .next (s.storeTo s.regs.hl (s.r8 .e) 2)

/-- `LD (HL),H` (R234). -/
def execLd_mhl_h (s : State) : Result := .next (s.storeTo s.regs.hl (s.r8 .h) 2)

/-- `LD (HL),L` (R234). -/
def execLd_mhl_l (s : State) : Result := .next (s.storeTo s.regs.hl (s.r8 .l) 2)

/-- `LD (HL),A` (R234). -/
def execLd_mhl_a (s : State) : Result := .next (s.storeTo s.regs.hl (s.r8 .a) 2)

/-- `LD A,B` (R231). -/
def execLd_a_b (s : State) : Result := .next (s.copyReg .a .b)

/-- `LD A,C` (R231). -/
def execLd_a_c (s : State) : Result := .next (s.copyReg .a .c)

/-- `LD A,D` (R231). -/
def execLd_a_d (s : State) : Result := .next (s.copyReg .a .d)

/-- `LD A,E` (R231). -/
def execLd_a_e (s : State) : Result := .next (s.copyReg .a .e)

/-- `LD A,H` (R231). -/
def execLd_a_h (s : State) : Result := .next (s.copyReg .a .h)

/-- `LD A,L` (R231). -/
def execLd_a_l (s : State) : Result := .next (s.copyReg .a .l)

/-- `LD A,(HL)` (R233). -/
def execLd_a_mhl (s : State) : Result := .next (s.loadFrom .a s.regs.hl 2)

/-- `LD A,A` (R231). -/
def execLd_a_a (s : State) : Result := .next (s.copyReg .a .a)

/-- `LDH (a8),A` (R247). -/
def execLdh_ma8_a (n : Byte) (s : State) : Result := .next (s.storeTo (highPage n) (s.r8 .a) 3)

/-- `LD (C),A` (R249). -/
def execLd_mc_a (s : State) : Result := .next (s.storeTo (highPage (s.r8 .c)) (s.r8 .a) 2)

/-- `LD (a16),A` (R245). -/
def execLd_ma16_a (n : Word) (s : State) : Result := .next (s.storeTo n (s.r8 .a) 4)

/-- `LDH A,(a8)` (R246). -/
def execLdh_a_ma8 (n : Byte) (s : State) : Result := .next (s.loadFrom .a (highPage n) 3)

/-- `LD A,(C)` (R248). -/
def execLd_a_mc (s : State) : Result := .next (s.loadFrom .a (highPage (s.r8 .c)) 2)

/-- `LD A,(a16)` (R244). -/
def execLd_a_ma16 (n : Word) (s : State) : Result := .next (s.loadFrom .a n 4)

end Sys2Proof.Machine
end

