-- ==== Sys2Proof/Machine/Rotate.lean ====
section
/-! DEFINITION. Rotates and shifts (45_rotate_shift_bit.md, R330–R342): one meaning for each row. -/

namespace Sys2Proof.Machine

/-- A rotate of A in the main table (R330–R333). -/
def State.rotateA (s : State) (op : ShiftOp) : State :=
  let r := applyRotateA op (s.r8 .a) s.flags.c
  ((s.setR8 .a r.1).setFlags r.2).charge 1

/-- A prefixed rotate or shift (R334–R342). -/
def State.shiftLoc (s : State) (op : ShiftOp) (z : Loc8) : State :=
  s.modify z (fun v f => applyShift op v f.c) (locCycles z)

/-- `RLCA` (R330). -/
def execRlca (s : State) : Result := .next (s.rotateA .rlc)

/-- `RRCA` (R331). -/
def execRrca (s : State) : Result := .next (s.rotateA .rrc)

/-- `RLA` (R332). -/
def execRla (s : State) : Result := .next (s.rotateA .rl)

/-- `RRA` (R333). -/
def execRra (s : State) : Result := .next (s.rotateA .rr)

/-- `RLC B` (R335). -/
def execRlc_b (s : State) : Result := .next (s.shiftLoc .rlc (.reg .b))

/-- `RLC C` (R335). -/
def execRlc_c (s : State) : Result := .next (s.shiftLoc .rlc (.reg .c))

/-- `RLC D` (R335). -/
def execRlc_d (s : State) : Result := .next (s.shiftLoc .rlc (.reg .d))

/-- `RLC E` (R335). -/
def execRlc_e (s : State) : Result := .next (s.shiftLoc .rlc (.reg .e))

/-- `RLC H` (R335). -/
def execRlc_h (s : State) : Result := .next (s.shiftLoc .rlc (.reg .h))

/-- `RLC L` (R335). -/
def execRlc_l (s : State) : Result := .next (s.shiftLoc .rlc (.reg .l))

/-- `RLC (HL)` (R335). -/
def execRlc_mhl (s : State) : Result := .next (s.shiftLoc .rlc .mhl)

/-- `RLC A` (R335). -/
def execRlc_a (s : State) : Result := .next (s.shiftLoc .rlc (.reg .a))

/-- `RRC B` (R336). -/
def execRrc_b (s : State) : Result := .next (s.shiftLoc .rrc (.reg .b))

/-- `RRC C` (R336). -/
def execRrc_c (s : State) : Result := .next (s.shiftLoc .rrc (.reg .c))

/-- `RRC D` (R336). -/
def execRrc_d (s : State) : Result := .next (s.shiftLoc .rrc (.reg .d))

/-- `RRC E` (R336). -/
def execRrc_e (s : State) : Result := .next (s.shiftLoc .rrc (.reg .e))

/-- `RRC H` (R336). -/
def execRrc_h (s : State) : Result := .next (s.shiftLoc .rrc (.reg .h))

/-- `RRC L` (R336). -/
def execRrc_l (s : State) : Result := .next (s.shiftLoc .rrc (.reg .l))

/-- `RRC (HL)` (R336). -/
def execRrc_mhl (s : State) : Result := .next (s.shiftLoc .rrc .mhl)

/-- `RRC A` (R336). -/
def execRrc_a (s : State) : Result := .next (s.shiftLoc .rrc (.reg .a))

/-- `RL B` (R337). -/
def execRl_b (s : State) : Result := .next (s.shiftLoc .rl (.reg .b))

/-- `RL C` (R337). -/
def execRl_c (s : State) : Result := .next (s.shiftLoc .rl (.reg .c))

/-- `RL D` (R337). -/
def execRl_d (s : State) : Result := .next (s.shiftLoc .rl (.reg .d))

/-- `RL E` (R337). -/
def execRl_e (s : State) : Result := .next (s.shiftLoc .rl (.reg .e))

/-- `RL H` (R337). -/
def execRl_h (s : State) : Result := .next (s.shiftLoc .rl (.reg .h))

/-- `RL L` (R337). -/
def execRl_l (s : State) : Result := .next (s.shiftLoc .rl (.reg .l))

/-- `RL (HL)` (R337). -/
def execRl_mhl (s : State) : Result := .next (s.shiftLoc .rl .mhl)

/-- `RL A` (R337). -/
def execRl_a (s : State) : Result := .next (s.shiftLoc .rl (.reg .a))

/-- `RR B` (R338). -/
def execRr_b (s : State) : Result := .next (s.shiftLoc .rr (.reg .b))

/-- `RR C` (R338). -/
def execRr_c (s : State) : Result := .next (s.shiftLoc .rr (.reg .c))

/-- `RR D` (R338). -/
def execRr_d (s : State) : Result := .next (s.shiftLoc .rr (.reg .d))

/-- `RR E` (R338). -/
def execRr_e (s : State) : Result := .next (s.shiftLoc .rr (.reg .e))

/-- `RR H` (R338). -/
def execRr_h (s : State) : Result := .next (s.shiftLoc .rr (.reg .h))

/-- `RR L` (R338). -/
def execRr_l (s : State) : Result := .next (s.shiftLoc .rr (.reg .l))

/-- `RR (HL)` (R338). -/
def execRr_mhl (s : State) : Result := .next (s.shiftLoc .rr .mhl)

/-- `RR A` (R338). -/
def execRr_a (s : State) : Result := .next (s.shiftLoc .rr (.reg .a))

/-- `SLA B` (R339). -/
def execSla_b (s : State) : Result := .next (s.shiftLoc .sla (.reg .b))

/-- `SLA C` (R339). -/
def execSla_c (s : State) : Result := .next (s.shiftLoc .sla (.reg .c))

/-- `SLA D` (R339). -/
def execSla_d (s : State) : Result := .next (s.shiftLoc .sla (.reg .d))

/-- `SLA E` (R339). -/
def execSla_e (s : State) : Result := .next (s.shiftLoc .sla (.reg .e))

/-- `SLA H` (R339). -/
def execSla_h (s : State) : Result := .next (s.shiftLoc .sla (.reg .h))

/-- `SLA L` (R339). -/
def execSla_l (s : State) : Result := .next (s.shiftLoc .sla (.reg .l))

/-- `SLA (HL)` (R339). -/
def execSla_mhl (s : State) : Result := .next (s.shiftLoc .sla .mhl)

/-- `SLA A` (R339). -/
def execSla_a (s : State) : Result := .next (s.shiftLoc .sla (.reg .a))

/-- `SRA B` (R340). -/
def execSra_b (s : State) : Result := .next (s.shiftLoc .sra (.reg .b))

/-- `SRA C` (R340). -/
def execSra_c (s : State) : Result := .next (s.shiftLoc .sra (.reg .c))

/-- `SRA D` (R340). -/
def execSra_d (s : State) : Result := .next (s.shiftLoc .sra (.reg .d))

/-- `SRA E` (R340). -/
def execSra_e (s : State) : Result := .next (s.shiftLoc .sra (.reg .e))

/-- `SRA H` (R340). -/
def execSra_h (s : State) : Result := .next (s.shiftLoc .sra (.reg .h))

/-- `SRA L` (R340). -/
def execSra_l (s : State) : Result := .next (s.shiftLoc .sra (.reg .l))

/-- `SRA (HL)` (R340). -/
def execSra_mhl (s : State) : Result := .next (s.shiftLoc .sra .mhl)

/-- `SRA A` (R340). -/
def execSra_a (s : State) : Result := .next (s.shiftLoc .sra (.reg .a))

/-- `SWAP B` (R341). -/
def execSwap_b (s : State) : Result := .next (s.shiftLoc .swap (.reg .b))

/-- `SWAP C` (R341). -/
def execSwap_c (s : State) : Result := .next (s.shiftLoc .swap (.reg .c))

/-- `SWAP D` (R341). -/
def execSwap_d (s : State) : Result := .next (s.shiftLoc .swap (.reg .d))

/-- `SWAP E` (R341). -/
def execSwap_e (s : State) : Result := .next (s.shiftLoc .swap (.reg .e))

/-- `SWAP H` (R341). -/
def execSwap_h (s : State) : Result := .next (s.shiftLoc .swap (.reg .h))

/-- `SWAP L` (R341). -/
def execSwap_l (s : State) : Result := .next (s.shiftLoc .swap (.reg .l))

/-- `SWAP (HL)` (R341). -/
def execSwap_mhl (s : State) : Result := .next (s.shiftLoc .swap .mhl)

/-- `SWAP A` (R341). -/
def execSwap_a (s : State) : Result := .next (s.shiftLoc .swap (.reg .a))

/-- `SRL B` (R342). -/
def execSrl_b (s : State) : Result := .next (s.shiftLoc .srl (.reg .b))

/-- `SRL C` (R342). -/
def execSrl_c (s : State) : Result := .next (s.shiftLoc .srl (.reg .c))

/-- `SRL D` (R342). -/
def execSrl_d (s : State) : Result := .next (s.shiftLoc .srl (.reg .d))

/-- `SRL E` (R342). -/
def execSrl_e (s : State) : Result := .next (s.shiftLoc .srl (.reg .e))

/-- `SRL H` (R342). -/
def execSrl_h (s : State) : Result := .next (s.shiftLoc .srl (.reg .h))

/-- `SRL L` (R342). -/
def execSrl_l (s : State) : Result := .next (s.shiftLoc .srl (.reg .l))

/-- `SRL (HL)` (R342). -/
def execSrl_mhl (s : State) : Result := .next (s.shiftLoc .srl .mhl)

/-- `SRL A` (R342). -/
def execSrl_a (s : State) : Result := .next (s.shiftLoc .srl (.reg .a))

end Sys2Proof.Machine
end

