-- ==== Sys2Proof/Machine/System.lean ====
section
/-! DEFINITION. System and control instructions (47_system.md, R390–R397) and the prefix row (R393): one meaning for each
row. -/

namespace Sys2Proof.Machine

/-- DI (R394): at once, and a pending EI is dropped. -/
def State.disableInterrupts (s : State) : State := { s with ime := false, pendingEI := .none }

/-- EI (R395): the enable is delayed by one instruction. -/
def State.enableInterrupts (s : State) : State :=
  if s.ime = false ∧ s.pendingEI = .none then { s with pendingEI := .delayEnable } else s

/-- The instruction of the prefixed table for op2, from the fields of R202 and R207; PC is already past op2 (R393). -/
def State.cbExec (s : State) (op2 : Byte) : State :=
  let y := fieldY op2
  let z := Loc8.ofCode (fieldZ op2)
  match (fieldX op2).toNat with
  | 0 => s.shiftLoc (ShiftOp.ofCode y) z
  | 1 => s.testBit y.toNat z
  | 2 => s.clearBit y.toNat z
  | _ => s.setBitAt y.toNat z

/-- `NOP` (R390). -/
def execNop (s : State) : Result := .next (s.charge 1)

/-- `STOP` (R392). -/
def execStop (_n : Byte) (s : State) : Result := .next ({ s with runState := .stopped }.charge 1)

/-- `HALT` (R391). -/
def execHalt (s : State) : Result := .next ({ s with runState := .halted }.charge 1)

/-- `PREFIX CB` (R393). -/
def execPrefix_cb (op2 : Byte) (s : State) : Result := .next (s.cbExec op2)

/-- `ILLEGAL 0xD3` (R396). -/
def execIllegal_d3 (s : State) : Result := .next (s.raiseLock 0xD3#8)

/-- `ILLEGAL 0xDB` (R396). -/
def execIllegal_db (s : State) : Result := .next (s.raiseLock 0xDB#8)

/-- `ILLEGAL 0xDD` (R396). -/
def execIllegal_dd (s : State) : Result := .next (s.raiseLock 0xDD#8)

/-- `ILLEGAL 0xE3` (R396). -/
def execIllegal_e3 (s : State) : Result := .next (s.raiseLock 0xE3#8)

/-- `ILLEGAL 0xE4` (R396). -/
def execIllegal_e4 (s : State) : Result := .next (s.raiseLock 0xE4#8)

/-- `ILLEGAL 0xEB` (R396). -/
def execIllegal_eb (s : State) : Result := .next (s.raiseLock 0xEB#8)

/-- `ILLEGAL 0xEC` (R396). -/
def execIllegal_ec (s : State) : Result := .next (s.raiseLock 0xEC#8)

/-- `ILLEGAL 0xED` (R396). -/
def execIllegal_ed (s : State) : Result := .next (s.raiseLock 0xED#8)

/-- `DI` (R394). -/
def execDi (s : State) : Result := .next (s.disableInterrupts.charge 1)

/-- `ILLEGAL 0xF4` (R396). -/
def execIllegal_f4 (s : State) : Result := .next (s.raiseLock 0xF4#8)

/-- `EI` (R395). -/
def execEi (s : State) : Result := .next (s.enableInterrupts.charge 1)

/-- `ILLEGAL 0xFC` (R396). -/
def execIllegal_fc (s : State) : Result := .next (s.raiseLock 0xFC#8)

/-- `ILLEGAL 0xFD` (R396). -/
def execIllegal_fd (s : State) : Result := .next (s.raiseLock 0xFD#8)

end Sys2Proof.Machine
end

