-- ==== Sys2Proof/Machine/Dma.lean ====
section
/-! DEFINITION. The OAM DMA engine, one dot at a time (R496, R497). -/

namespace Sys2Proof.Machine

/-- `DmaRead(a)` (R497): the source byte, without the CPU-side blocking. No source lies at or above 0xE000; there the
model answers open bus (log entry 17). -/
def State.dmaRead (s : State) (a : Word) : Byte :=
  match regionOf a with
  | .rom | .cartRam => s.cart.read a
  | .vram => Memory.read s.ppu.vram (s.vramCell a)
  | .wramFixed | .wramBanked => Memory.read s.wram (s.wramCell a)
  | .echo | .oam | .prohibited | .io | .hole | .hram | .ie => Config.openBus

/-- The copy of the current byte into OAM (R496). -/
def State.dmaCopy (s : State) : State :=
  let v := s.dmaRead (s.dma.src + BitVec.ofNat 16 s.dma.count)
  { s with
    ppu := { s.ppu with oam := Memory.write s.ppu.oam s.dma.count v }
    dma := { s.dma with count := s.dma.count + 1 } }

/-- The dot counter between bytes, and the end of the transfer (R496). -/
def Dma.advance (d : Dma) : Dma :=
  let sub := (d.sub + 1) % 4
  { d with sub := sub, active := !(d.count == Config.dmaLength && sub == 0) }

/-- `DmaStep()` (R496). -/
def State.dmaStep (s : State) : State :=
  if !s.dma.active then s
  else if 0 < s.dma.delay then { s with dma := { s.dma with delay := s.dma.delay - 1 } }
  else
    let s := if s.dma.sub = 0 then s.dmaCopy else s
    { s with dma := s.dma.advance }

end Sys2Proof.Machine
end

