-- ==== Sys2Proof/Machine/Env.lean ====
section
/-! DEFINITION. What the environment and the host do between two dots (R505, R506, R521), taken from the event list of
State (log entry 9). -/

namespace Sys2Proof.Machine

/-- `ReadByte(a)` by the host between dots: a bus read whose byte the host receives (R521, log entry 20). -/
def State.hostRead (s : State) (a : Word) : Access Byte := s.read a

/-- `WriteByte(a, v)` by the host between dots (R521, log entry 20). -/
def State.hostWrite (s : State) (a : Word) (v : Byte) : Access Unit := s.write a v

/-- The environment requests an interrupt: the IF bit is set (R506). -/
def State.request (s : State) (i : Irq) : State := { s with ifr := s.ifr ||| (1#5 <<< i.bit) }

/-- Locked and Faulted are for good (R440, R441): a host access that faults later leaves the first reason standing
(log entry 11). -/
def State.keepingEnd (s t : State) : State := if s.terminal then { t with runState := s.runState } else t

/-- What one event does (R505, R521). -/
def State.applyEvent (s : State) (e : ExternalEvent) : State :=
  match e with
  | .timerRequest => s.request .timer
  | .serialRequest => s.request .serial
  | .joypadRequest => s.request .joypad
  | .rtcAdvance k => { s with cart := s.cart.rtcAdvance k }
  | .hostRead a => s.keepingEnd ((s.hostRead a).run fun _ t => t)
  | .hostWrite a v => s.keepingEnd ((s.hostWrite a v).run fun _ t => t)

/-- The events of one gap in order. They happen between any two dots, of a Locked or Faulted machine too (R505;
log entry 11). -/
def State.applyEvents (s : State) (es : List ExternalEvent) : State :=
  match es with
  | [] => s
  | e :: rest => (s.applyEvent e).applyEvents rest

/-- The events that happen before the next dot are taken from the list (R410, log entry 9). -/
def State.takeEvents (s : State) : State :=
  match s.external with
  | [] => s
  | es :: rest => { s with external := rest }.applyEvents es

end Sys2Proof.Machine
end

