-- ==== Sys2Proof/Machine/Cpu.lean ====
section
/-! DEFINITION. The CPU's dispatch (R412), the per-dot driver (R411), one dot of the whole machine (R410), and the placing
of an instruction where the next dot fetches it. -/

namespace Sys2Proof.Machine

/-- The bytes of the next instruction, fetched in order; the first byte fixes how many there are (R200, R220). -/
def State.fetchInstr (s : State) : Access (List Byte) :=
  s.fetch8.andThen fun op s => (s.fetchBytes (instrLength op - 1)).andThen fun rest s => .ok (op :: rest) s

/-- After an executed instruction the deferred EI transition is applied, but not after a Lock or a Fault (R412, R430). -/
def afterInstr (r : Result) : Result :=
  match r with
  | .next t => .next (if t.terminal then t else t.applyPendingEI)
  | .fault f => .fault f
  | .refused f => .refused f

/-- Fetch, decode and execute one instruction (R220, R412). -/
def State.fetchAndExec (s : State) : Result :=
  match s.fetchInstr with
  | .stop t => .next t
  | .ok bytes t =>
    match decode bytes with
    | .ok (i, _) => afterInstr (exec i t)
    | .error _ => .fault .noHandler

/-- A Halted CPU wakes when an enabled interrupt is requested, a Stopped CPU when IF bit 4 is set (R412, R424). -/
def State.wake (s : State) : State :=
  match s.runState with
  | .halted => if s.pending = 0#5 then s else { s with runState := .running }
  | .stopped => if s.ifr.getLsbD 4 then { s with runState := .running } else s
  | .running | .locked _ _ | .faulted _ _ => s

/-- A waiting CPU idles one machine cycle (R412). -/
def State.idle (s : State) : State := { s with cyclesRemaining := Config.dotsPerCycle }

/-- A running CPU services one interrupt, or else runs one instruction (R412, R423). -/
def State.serviceOrExec (s : State) : Result :=
  match s.ime, s.nextIrq with
  | true, some i => .next (s.takeInterrupt i)
  | _, _ => s.fetchAndExec

/-- `Dispatch()` (R412). -/
def State.dispatch (s : State) : Result :=
  match s.wake.runState with
  | .halted | .stopped => .next s.wake.idle
  | .running | .locked _ _ | .faulted _ _ => s.wake.serviceOrExec

/-- `InstructionTick()` (R411). -/
def State.instructionTick (s : State) : Result :=
  let s := { s with cyclesRemaining := s.cyclesRemaining - 1 }
  if s.cyclesRemaining = 0 then s.dispatch else .next s

/-- The PPU's step of a dot, and the requests it sets in IF (R460, R490, R491). -/
def State.ppuStep (s : State) : State :=
  let r := s.ppu.step s.colorMode
  { s with ppu := r.1, ifr := s.ifr ||| r.2 }

/-- The PPU and DMA steps of a dot, unless the CPU step stopped the machine (R410). -/
def State.afterCpu (s : State) : State := if s.terminal then s else s.ppuStep.dmaStep

/-- `DotTick()` (R410). -/
def State.dotTick (s : State) : Result :=
  if s.terminal then .next s
  else
    match s.instructionTick with
    | .next t => .next t.afterCpu
    | .fault f => .fault f
    | .refused f => .refused f

/-! ### Placing an instruction (log entry 24) -/

/-- The store behind a bus address gets the byte `v`, whatever blocks the bus. -/
def State.place (s : State) (a : Word) (v : Byte) : State :=
  match regionOf a with
  | .rom =>
    let bank := if a.toNat < 0x4000 then s.cart.lowRomBank else s.cart.highRomBank
    let cell := (bank &&& (s.cart.romBanks - 1)) * Config.romBankSize + a.toNat % 0x4000
    { s with cart := { s.cart with rom := Memory.write s.cart.rom cell v } }
  | .vram => { s with ppu := { s.ppu with vram := Memory.write s.ppu.vram (s.vramCell a) v } }
  | .cartRam => { s with cart := s.cart.writeRam a v }
  | .wramFixed | .wramBanked => { s with wram := Memory.write s.wram (s.wramCell a) v }
  | .echo => { s with wram := Memory.write s.wram (s.wramCell (echoOf a)) v }
  | .oam => { s with ppu := { s.ppu with oam := Memory.write s.ppu.oam (a.toNat - 0xFE00) v } }
  | .hram => { s with hram := Memory.write s.hram (a.toNat - 0xFF80) v }
  | .ie => { s with ie := v }
  | .prohibited | .io | .hole => s

/-- Consecutive bytes placed from an address on. -/
def State.placeAll (s : State) (a : Word) (bytes : List Byte) : State :=
  match bytes with
  | [] => s
  | v :: rest => (s.place a v).placeAll (a + 1) rest

/-- Whether the bus gives these bytes from an address on. -/
def State.readsAs (s : State) (a : Word) (bytes : List Byte) : Bool :=
  match bytes with
  | [] => true
  | v :: rest => s.busRead a == some v && s.readsAs (a + 1) rest

/-- The bytes placed at PC, or at the start of WRAM with PC there when the bus does not give them at PC. -/
def State.placeAtPc (s : State) (bytes : List Byte) : State :=
  let t := s.placeAll s.regs.pc bytes
  if t.readsAs s.regs.pc bytes then t else (s.setPc 0xC000#16).placeAll 0xC000#16 bytes

/-- The next dot dispatches and fetches: the CPU runs, no count is left, no event comes first and no interrupt is taken. -/
def State.readyToFetch (s : State) : State :=
  { s with
    runState := .running, cyclesRemaining := 0, external := []
    ime := s.ime && s.pending == 0#5 }

end Sys2Proof.Machine
end

