-- ==== Sys2Proof/Machine/Step.lean ====
section
/-! DEFINITION. One step of the machine: the events of the gap, then one dot (R410, R505; log entry 7). -/

namespace Sys2Proof.Machine

/-- One step: the events before the dot (R505), then the dot, in which a Locked or Faulted machine does nothing (R410,
R440, R441). -/
def step (s : State) : Host.Outcome State Fault Refusal := s.takeEvents.dotTick

/-- `s` with the instruction of a word of `opcode_table.json` where the next step fetches it (log entries 13 and 24). -/
def State.withFetchWord (s : State) (nbits w : Nat) : State := (s.placeAtPc (tableBytes nbits w)).readyToFetch

end Sys2Proof.Machine
end

