-- ==== Sys2Proof/Machine/Construct.lean ====
section
/-! DEFINITION. `Construct(IMAGE, COLOR_MODE)`, the only reset, with its load-time refusals (R530, R533), the header codes
(R142, R150, R151) and the MBC1M detection (R167). -/

namespace Sys2Proof.Machine

/-- The reasons of `refuse` (R530, R533); no machine exists after one. -/
inductive LoadRefusal where
  | imageTooShort | romSizeCode | ramSizeCode | cartridgeType | imageLength | noMbcSize
  deriving DecidableEq, Repr

/-- A cartridge image: its bytes as cells, and its length (R9, R140). -/
structure Image where
  bytes : Memory
  length : Nat
  deriving DecidableEq, Repr

/-- Byte `o` of the image. -/
def Image.byte (i : Image) (o : Nat) : Byte := Memory.read i.bytes o

/-- The environment of a launch, the parameter `ENV` (R9, R505): its answers are those of `Config.envByte` from draw
number `draws` on (log entry 8), and `events` is what it does before each coming dot, beside the host's accesses
(log entry 9). -/
structure Environment where
  draws : Nat
  events : List (List ExternalEvent)
  deriving DecidableEq, Repr

/-- The launch parameters of R9 besides `IMAGE` and `COLOR_MODE`. -/
structure Boot where
  af : Word
  bc : Word
  de : Word
  hl : Word
  ifr : BitVec 5
  vram : Memory
  oam : Memory
  wram : Memory
  hram : Memory
  cartRam : Memory
  bgPalRam : Memory
  objPalRam : Memory
  rtc : Rtc
  env : Environment
  deriving DecidableEq, Repr

/-- The launch parameters of `State.reset` (log entries 2 to 5, 8 and 9). -/
def Boot.default : Boot :=
  { af := 0, bc := 0, de := 0, hl := 0, ifr := 1, vram := [], oam := [], wram := [], hram := [], cartRam := [],
    bgPalRam := [], objPalRam := [], rtc := { s := 0, m := 0, hr := 0, dl := 0, dh := 0 }
    env := { draws := 0, events := [] } }

/-- The default of `COLOR_MODE`: bit 7 of the CGB flag (R9, R141). -/
def Image.defaultColorMode (i : Image) : Bool := (i.byte 0x0143).getLsbD 7

/-- `ROM_BANKS` for a ROM-size code (R142). -/
def romBankCount (code : Byte) : Option Nat := if code.toNat ≤ 0x08 then some (2 * 2 ^ code.toNat) else none

/-- `RamTable(code)` (R150). -/
def ramBankCount (code : Byte) : Option Nat :=
  match code.toNat with
  | 0x00 => some 0
  | 0x02 => some 1
  | 0x03 => some 4
  | 0x04 => some 16
  | 0x05 => some 8
  | _ => none

/-- MBC1 and MBC1M registers at power-on (R70, D56). -/
def Mbc1Regs.reset (w : Nat) : Mbc1Regs w := { ramEnable := false, bank1 := 1, bank2 := 0, mode := 0 }

/-- The variant of a cartridge-type byte with its registers at power-on (R151, R70, D56). -/
def variantOf (type : Byte) (rtc : Rtc) : Option Mbc :=
  let mbc3 (hasRtc : Bool) : Mbc :=
    .mbc3 { hasRtc := hasRtc, ramEnable := false, romBank := 1, select := 0, latchPrev := 0xFF, live := rtc, latched := rtc }
  let mbc5 (hasRumble : Bool) : Mbc :=
    .mbc5 { hasRumble := hasRumble, ramEnable := false, romBank := 1, ramBank := 0, rumble := false }
  match type.toNat with
  | 0x00 | 0x08 | 0x09 => some .noMbc
  | 0x01 | 0x02 | 0x03 => some (.mbc1 (.reset 5))
  | 0x05 | 0x06 => some (.mbc2 { ramEnable := false, romBank := 1 })
  | 0x0F | 0x10 => some (mbc3 true)
  | 0x11 | 0x12 | 0x13 => some (mbc3 false)
  | 0x19 | 0x1A | 0x1B => some (mbc5 false)
  | 0x1C | 0x1D | 0x1E => some (mbc5 true)
  | _ => none

/-- Whether `n` bytes from offset `o` of bank 0x10 equal those of bank 0. -/
def Image.sameInBank16 (i : Image) (o n : Nat) : Bool :=
  match n with
  | 0 => true
  | n + 1 => i.byte (0x10 * Config.romBankSize + o) == i.byte o && i.sameInBank16 (o + 1) n

/-- The MBC1M detection: more than 0x10 banks and the logo of bank 0 again in bank 0x10 (R167). -/
def Image.isMulticart (i : Image) (romBanks : Nat) : Bool := decide (0x10 < romBanks) && i.sameInBank16 0x0104 48

/-- The variant after the MBC1M detection (R530). -/
def Image.withMulticart (i : Image) (romBanks : Nat) (m : Mbc) : Mbc :=
  match m with
  | .mbc1 _ => if i.isMulticart romBanks then .mbc1m (.reset 4) else m
  | .noMbc | .mbc1m _ | .mbc2 _ | .mbc3 _ | .mbc5 _ => m

/-- Whether the header declares more than a No-MBC cartridge has (R152, R530). -/
def oversizedNoMbc (m : Mbc) (romBanks ramBanks : Nat) : Bool :=
  match m with
  | .noMbc => decide (romBanks ≠ 2) || decide (1 < ramBanks)
  | .mbc1 _ | .mbc1m _ | .mbc2 _ | .mbc3 _ | .mbc5 _ => false

/-- The power-on state with a cartridge and launch parameters (R70); F's low nibble is 0 (R9). -/
def powerOn (c : Cart) (colorMode : Bool) (b : Boot) : State :=
  { State.reset with
    regs := { State.reset.regs with af := b.af &&& 0xFFF0#16, bc := b.bc, de := b.de, hl := b.hl }
    ifr := b.ifr, colorMode := colorMode, wram := b.wram, hram := b.hram
    ppu := { Ppu.reset with vram := b.vram, oam := b.oam, bgPalRam := b.bgPalRam, objPalRam := b.objPalRam }
    cart := c, envDraws := b.env.draws, external := b.env.events }

/-- `Construct(IMAGE, COLOR_MODE)` (R530), with the checks in its order. -/
def construct (i : Image) (colorMode : Bool) (b : Boot) : Except LoadRefusal State :=
  if i.length < 0x0150 then .error .imageTooShort else
  match romBankCount (i.byte 0x0148) with
  | none => .error .romSizeCode
  | some romBanks =>
    match ramBankCount (i.byte 0x0149) with
    | none => .error .ramSizeCode
    | some ramBanks =>
      match variantOf (i.byte 0x0147) b.rtc with
      | none => .error .cartridgeType
      | some m =>
        if i.length ≠ romBanks * Config.romBankSize then .error .imageLength
        else if oversizedNoMbc m romBanks ramBanks then .error .noMbcSize
        else
          .ok (powerOn { rom := i.bytes, romBanks := romBanks, ram := b.cartRam, ramBanks := ramBanks,
                         mbc := i.withMulticart romBanks m } colorMode b)

end Sys2Proof.Machine
end

