-- ==== Sys2Proof/Machine/HostApi.lean ====
section
/-! DEFINITION. The host's boundary: the frame driver `RenderFrame()` (R520), and how a run ends or crashes (R522). -/

namespace Sys2Proof.Machine

/-- Dots of one `RenderFrame` call (R520, R550). -/
def dotsPerFrame : Nat := Config.linesPerFrame * Config.dotsPerLine

/-- `RenderFrame()` (R520): one frame of dots, wherever the previous one stopped. -/
def renderFrame (s : State) : Host.Outcome State Fault Refusal := Sys2Proof.core.run dotsPerFrame s

/-- What the presentation layer reads after a call: the framebuffer, or the terminal state instead (R520, R521). -/
def State.frame (s : State) : Except RunState (Cells 16) := if s.terminal then .error s.runState else .ok s.ppu.framebuffer

/-! ### The end of a run (R522) -/

/-- The state `Dispatch` is called on in the coming dot, if that dot is a dispatch dot (R411): the events of the gap have
happened, and the count has run out. -/
def State.dispatchState (s : State) : Option State :=
  let t := s.takeEvents
  if t.terminal = false ∧ t.cyclesRemaining ≤ 1 then some { t with cyclesRemaining := 0 } else none

/-- Halted with no interrupt enabled, which no interrupt can wake (R391, R522). -/
def State.haltedForGood (s : State) : Bool := s.runState == .halted && s.ie.setWidth 5 == 0#5

/-- The end state, if the coming dot is a dispatch dot that observes the end of the run (R522). -/
def State.endState (s : State) : Option State :=
  match s.dispatchState with
  | some t => if t.haltedForGood then some t else none
  | none => none

/-- What a run has come to (R522). -/
inductive RunOutcome where
  /-- The run ended, in this state: the one at the first dispatch dot that observed it. -/
  | ended (t : State)
  /-- The run crashed: the machine is Locked or Faulted. -/
  | crashed (t : State)
  /-- The run does neither so far. -/
  | running (t : State)
  deriving DecidableEq, Repr

/-- What a run from `s` has come to within `n` dots (R522). -/
def runOutcome (n : Nat) (s : State) : RunOutcome :=
  match s.endState with
  | some t => .ended t
  | none =>
    if s.terminal then .crashed s
    else
      match n with
      | 0 => .running s
      | n + 1 =>
        match step s with
        | .next t => runOutcome n t
        | .fault _ | .refused _ => .running s

end Sys2Proof.Machine
end

