-- ==== Sys2Proof/Safety.lean ====
section
/-! DEFINITION. The canonical form of every memory and the invariants of the machine that claims use. What counts as the
end or the crash of a run (R522) stands in Machine/HostApi.lean. -/

namespace Sys2Proof.Machine

/-- The PPU's memories are canonical. -/
def Ppu.memoriesWf (p : Ppu) : Bool :=
  Memory.wf p.vram && Memory.wf p.oam && Memory.wf p.bgPalRam && Memory.wf p.objPalRam && Cells.wf p.framebuffer

/-- Every memory is in canonical form. -/
def State.memoriesWf (s : State) : Bool :=
  Memory.wf s.wram && Memory.wf s.hram && s.ppu.memoriesWf && Memory.wf s.cart.rom && Memory.wf s.cart.ram

/-- F's low nibble is stored as 0 (R33). -/
def State.flagNibbleClear (s : State) : Prop := s.regs.af &&& 0x000F#16 = 0#16

/-- IME = 1 implies PendingEI = None (R431). -/
def State.eiInvariant (s : State) : Prop := s.ime = true → s.pendingEI = .none

/-- The line counter and the mode agree (R60, R461, R462): LY is 0–153, a line has 456 dots, and mode 1 is exactly the
lines 144–153. -/
def Ppu.lineInv (p : Ppu) : Prop := p.ly.toNat ≤ 153 ∧ p.dot < 456 ∧ (p.mode = .vblank ↔ 144 ≤ p.ly.toNat)

/-- The OAM scan's position follows the dot (R61, R463): two dots an entry, at most 10 entries selected. -/
def Ppu.scanInv (p : Ppu) : Prop :=
  p.selected.length ≤ 10 ∧ p.scanIndex ≤ 40 ∧
    (p.mode = .oamScan →
      p.dot < 80 ∧ p.scanIndex = p.dot / 2 ∧ (p.scanMicro = .compare ↔ p.dot % 2 = 1))

/-- The pixel pipeline's bounds (R60, R63): at most 160 pixels a line, FIFOs of at most 8 pixels, and an object being
fetched is due. -/
def Ppu.pipeInv (p : Ppu) : Prop :=
  p.lx ≤ 160 ∧ p.bgFifo.length ≤ 8 ∧ p.objFifo.length ≤ 8 ∧ p.discard ≤ 7 ∧
    (p.mode = .drawing → p.lx < 160 ∧ (p.objf.active = true → p.objf.obj.x.toNat ≤ p.lx + 8))

/-- The DMA counters' bounds (R67, R495–R497). -/
def Dma.inv (d : Dma) : Prop :=
  d.delay ≤ 8 ∧ d.count ≤ 160 ∧ d.sub ≤ 3 ∧ d.src.toNat < 0xE000 ∧ (d.active = true → d.count = 160 → d.sub ≠ 0)

end Sys2Proof.Machine
end

