-- ==== Sys2Proof/WellFormed.lean ====
section
/-! DEFINITION. Which terms of `Instr` are instructions by themselves. Every operand is checked by its type; the one
check left is the prefix row. -/

namespace Sys2Proof

/-- 0xCB "is not an instruction by itself" (R214): `0xCB, op2` is the instruction of the prefixed table, so the prefix
row's own constructor is not well-formed (log entry 13). -/
def Instr.isPrefix (i : Instr) : Bool :=
  match i with
  | .prefix_cb _ => true
  | _ => false

/-- A term of `Instr` that is an instruction by itself: not the bare prefix row (R214). -/
def WellFormed (i : Instr) : Bool := !i.isPrefix

end Sys2Proof
end

