-- ==== Sys2Proof/Certificates/Slice0/Obligations.lean ====
section
/-! DEFINITION. The statements about the model, taken from the numbered rules of the spec. What they compare the model
with is written in plain arithmetic in `Sys2Proof.Claims`. A cost of `n` machine cycles is `State.charge n` (R414: 4n dots
are added to CyclesRemaining), and a whole-state equation says at once what an instruction writes and that it leaves
everything else, all of memory included. -/

namespace Sys2Proof.Claims

open Sys2Proof.Machine

/-! ### What the statements compare with -/

/-- Whether a number is below another, as a flag. -/
abbrev below (a b : Nat) : Bool := decide (a < b)

/-- The ALU in plain arithmetic (R280, R281–R304): the new A and the flags Z, N, H and C. -/
def aluRule (op : AluOp) (a v : Byte) (carry : Bool) : Byte × Flags :=
  let x := a.toNat
  let y := v.toNat
  let c := if carry then 1 else 0
  let sum (k : Nat) : Byte × Flags :=
    (BitVec.ofNat 8 (x + y + k), ⟨decide ((x + y + k) % 256 = 0), false, below 15 (x % 16 + y % 16 + k), below 255 (x + y + k)⟩)
  let difference (k : Nat) : Byte × Flags :=
    (BitVec.ofInt 8 ((x : Int) - y - k),
      ⟨decide (((x : Int) - y - k) % 256 = 0), true, below (x % 16) (y % 16 + k), below x (y + k)⟩)
  match op with
  | .add => sum 0
  | .adc => sum c
  | .sub => difference 0
  | .sbc => difference c
  | .and => (a &&& v, ⟨decide (a &&& v = 0#8), false, true, false⟩)
  | .xor => (a ^^^ v, ⟨decide (a ^^^ v = 0#8), false, false, false⟩)
  | .or => (a ||| v, ⟨decide (a ||| v = 0#8), false, false, false⟩)
  | .cp => (a, (difference 0).2)

/-- A rotate or shift by one in plain arithmetic (R335–R342): the result and the bit that falls out. -/
def shiftRule (op : ShiftOp) (v : Byte) (carry : Bool) : Nat × Bool :=
  let x := v.toNat
  let c := if carry then 1 else 0
  match op with
  | .rlc => (2 * x % 256 + x / 128, below 127 x)
  | .rrc => (x / 2 + 128 * (x % 2), decide (x % 2 = 1))
  | .rl => (2 * x % 256 + c, below 127 x)
  | .rr => (x / 2 + 128 * c, decide (x % 2 = 1))
  | .sla => (2 * x % 256, below 127 x)
  | .sra => (x / 2 + 128 * (x / 128), decide (x % 2 = 1))
  | .swap => (16 * (x % 16) + x / 16, false)
  | .srl => (x / 2, decide (x % 2 = 1))

/-- DAA in plain arithmetic (R309): the new A and the new C. -/
def daaRule (a : Byte) (n h c : Bool) : Int × Bool :=
  let x := a.toNat
  if n then ((x : Int) - (if c then 0x60 else 0) - (if h then 0x06 else 0), c)
  else
    let high := c || below 0x99 x
    ((x : Int) + (if high then 0x60 else 0) + (if h || below 9 (x % 16) then 0x06 else 0), high)

/-- SP plus a signed byte, and its flags from the unsigned low parts (R263, R323). -/
def spRule (sp : Word) (e : Byte) : Word × Flags :=
  (BitVec.ofInt 16 ((sp.toNat : Int) + e.toInt),
    ⟨false, false, below 15 (sp.toNat % 16 + e.toNat % 16), below 255 (sp.toNat % 256 + e.toNat)⟩)

/-- `Cond(cc)` for a condition code (R18, R205): NZ, Z, NC, C. -/
def holds (cc : BitVec 2) (f : Flags) : Bool :=
  match cc.toNat with
  | 0 => !f.z
  | 1 => f.z
  | 2 => !f.c
  | _ => f.c

/-- The high-page address of a byte, 0xFF00 to 0xFFFF (R208). -/
def high (n : Byte) : Word := BitVec.ofNat 16 (0xFF00 + n.toNat)

/-- The value of bank register `b` where 0 aliases to 1 (R161, R170, R176). -/
def aliased (b : Nat) : Nat := if b = 0 then 1 else b

/-- The eleven illegal opcodes (R212). -/
def illegalOpcodes : List Byte :=
  [0xD3#8, 0xDB#8, 0xDD#8, 0xE3#8, 0xE4#8, 0xEB#8, 0xEC#8, 0xED#8, 0xF4#8, 0xFC#8, 0xFD#8]

/-- A load of an 8-bit register from the bus: instruction, register, address, machine cycles (R233, R236, R237, R244, R246,
R248). -/
def memoryLoads (s : State) (m : Word) (k : Byte) : List (Instr × Reg8 × Word × Nat) :=
  [(.ld_b_mhl, .b, s.regs.hl, 2), (.ld_c_mhl, .c, s.regs.hl, 2), (.ld_d_mhl, .d, s.regs.hl, 2),
   (.ld_e_mhl, .e, s.regs.hl, 2), (.ld_h_mhl, .h, s.regs.hl, 2), (.ld_l_mhl, .l, s.regs.hl, 2),
   (.ld_a_mhl, .a, s.regs.hl, 2), (.ld_a_mbc, .a, s.regs.bc, 2), (.ld_a_mde, .a, s.regs.de, 2),
   (.ld_a_ma16 m, .a, m, 4), (.ldh_a_ma8 k, .a, high k, 3), (.ld_a_mc, .a, high (s.r8 .c), 2)]

/-- A store of a byte: instruction, address, byte, machine cycles (R234, R235, R238, R239, R245, R247, R249). -/
def memoryStores (s : State) (m : Word) (k : Byte) : List (Instr × Word × Byte × Nat) :=
  [(.ld_mhl_b, s.regs.hl, s.r8 .b, 2), (.ld_mhl_c, s.regs.hl, s.r8 .c, 2), (.ld_mhl_d, s.regs.hl, s.r8 .d, 2),
   (.ld_mhl_e, s.regs.hl, s.r8 .e, 2), (.ld_mhl_h, s.regs.hl, s.r8 .h, 2), (.ld_mhl_l, s.regs.hl, s.r8 .l, 2),
   (.ld_mhl_a, s.regs.hl, s.r8 .a, 2), (.ld_mhl_n8 k, s.regs.hl, k, 3), (.ld_mbc_a, s.regs.bc, s.r8 .a, 2),
   (.ld_mde_a, s.regs.de, s.r8 .a, 2), (.ld_ma16_a m, m, s.r8 .a, 4), (.ldh_ma8_a k, high k, s.r8 .a, 3),
   (.ld_mc_a, high (s.r8 .c), s.r8 .a, 2)]

/-- The read-modify-write instructions on the byte at HL (R306, R308, R334). -/
def modifies : List Instr :=
  [.inc_mhl, .dec_mhl, .rlc_mhl, .rrc_mhl, .rl_mhl, .rr_mhl, .sla_mhl, .sra_mhl, .swap_mhl, .srl_mhl,
   .res_0_mhl, .res_1_mhl, .res_2_mhl, .res_3_mhl, .res_4_mhl, .res_5_mhl, .res_6_mhl, .res_7_mhl,
   .set_0_mhl, .set_1_mhl, .set_2_mhl, .set_3_mhl, .set_4_mhl, .set_5_mhl, .set_6_mhl, .set_7_mhl]

/-- Every instruction that stores one byte, and the address stored to. -/
def byteStores (s : State) (m : Word) (k : Byte) : List (Instr × Word) :=
  (memoryStores s m k).map (fun x => (x.1, x.2.1)) ++ [(.ld_mhli_a, s.regs.hl), (.ld_mhld_a, s.regs.hl)]
    ++ modifies.map fun i => (i, s.regs.hl)

/-- Every instruction that stores two bytes, and the addresses stored to: `LD (a16),SP`, and the pushes of PUSH, CALL and
RST (R261, R264, R366, R367, R370). -/
def wordStores (s : State) (m : Word) : List (Instr × Word × Word) :=
  (.ld_ma16_sp m, m, m + 1) ::
    ([.push_bc, .push_de, .push_hl, .push_af, .call_a16 m, .call_nz_a16 m, .call_z_a16 m, .call_nc_a16 m, .call_c_a16 m,
      .rst_00, .rst_08, .rst_10, .rst_18, .rst_20, .rst_28, .rst_30, .rst_38] : List Instr).map
      fun i => (i, s.regs.sp - 1, s.regs.sp - 2)

/-- The calls a state takes: instruction, target, machine cycles (R366, R367, R370). -/
def takenCalls (s : State) (m : Word) : List (Instr × Word × Nat) :=
  [(.call_a16 m, m, 6), (if s.flags.z then .call_z_a16 m else .call_nz_a16 m, m, 6),
   (if s.flags.c then .call_c_a16 m else .call_nc_a16 m, m, 6),
   (.rst_00, 0x00, 4), (.rst_08, 0x08, 4), (.rst_10, 0x10, 4), (.rst_18, 0x18, 4), (.rst_20, 0x20, 4),
   (.rst_28, 0x28, 4), (.rst_30, 0x30, 4), (.rst_38, 0x38, 4)]

/-- The returns a state takes besides RETI: instruction, machine cycles (R368, R369). -/
def takenReturns (s : State) : List (Instr × Nat) :=
  [(.ret, 4), (if s.flags.z then .ret_z else .ret_nz, 5), (if s.flags.c then .ret_c else .ret_nc, 5)]

/-- An address whose bus write stores in a memory and does nothing more (R121): not a control register, not an I/O
register, not the hole. -/
def plain (a : Word) : Bool :=
  match regionOf a with
  | .vram | .cartRam | .wramFixed | .wramBanked | .echo | .oam | .prohibited | .hram | .ie => true
  | .rom | .io | .hole => false

/-- Two addresses reach the same stored byte: they are equal, one is the echo of the other (R110), or they are the same
entry of the MBC2 array (R174). -/
def sameByte (s : State) (a b : Word) : Prop :=
  a = b ∨ (regionOf a = .echo ∧ b = a - 0x2000#16) ∨ (regionOf b = .echo ∧ a = b - 0x2000#16) ∨
    ((∃ r, s.cart.mbc = .mbc2 r) ∧ regionOf a = .cartRam ∧ regionOf b = .cartRam ∧ a.toNat % 512 = b.toNat % 512)

/-- The bytes of ROM bank `bank`, masked into the banks there are (R153). -/
def romAt (c : Cart) (bank offset : Nat) : Byte := Memory.read c.rom (bank % c.romBanks * 0x4000 + offset)

/-- A read of cartridge RAM bank `bank` behind a gate: open bus when closed or when there is no bank (R153). -/
def ramAt (c : Cart) (gate : Bool) (bank offset : Nat) : Byte :=
  if gate = true ∧ c.ramBanks ≠ 0 then Memory.read c.ram (bank % c.ramBanks * 0x2000 + offset) else 0xFF#8

/-- A write of cartridge RAM bank `bank` behind a gate: dropped when closed or when there is no bank (R153). -/
def ramPut (c : Cart) (gate : Bool) (bank offset : Nat) (v : Byte) : Cart :=
  if gate = true ∧ c.ramBanks ≠ 0 then { c with ram := Memory.write c.ram (bank % c.ramBanks * 0x2000 + offset) v } else c

/-- The bank counts a header can declare: powers of two, or no RAM (R142, R150). -/
def bankCounts (c : Cart) : Prop := (∃ k, c.romBanks = 2 ^ k) ∧ (c.ramBanks = 0 ∨ ∃ k, c.ramBanks = 2 ^ k)

/-- MBC1 and MBC1M with a bank register of `w` bits (R160–R165, R168, R169): the four control writes, bank 0 aliasing to 1, and
the banks reads and writes reach. -/
def mbc1Rules (w : Nat) (tag : Mbc1Regs w → Mbc) : Prop :=
  ∀ (c : Cart) (r : Mbc1Regs w) (a : Word) (v : Byte), bankCounts c → c.mbc = tag r →
    let high := if r.mode = 1#1 then r.bank2.toNat else 0
    (a.toNat < 0x2000 → c.write a v = { c with mbc := tag { r with ramEnable := decide (v.toNat % 16 = 10) } }) ∧
    (0x2000 ≤ a.toNat → a.toNat < 0x4000 →
      c.write a v = { c with mbc := tag { r with bank1 := BitVec.ofNat w (aliased (v.toNat % 2 ^ w)) } }) ∧
    (0x4000 ≤ a.toNat → a.toNat < 0x6000 →
      c.write a v = { c with mbc := tag { r with bank2 := BitVec.ofNat 2 (v.toNat % 4) } }) ∧
    (0x6000 ≤ a.toNat → a.toNat < 0x8000 →
      c.write a v = { c with mbc := tag { r with mode := BitVec.ofNat 1 (v.toNat % 2) } }) ∧
    (a.toNat < 0x4000 → c.read a = romAt c (2 ^ w * high) a.toNat) ∧
    (0x4000 ≤ a.toNat → a.toNat < 0x8000 → c.read a = romAt c (2 ^ w * r.bank2.toNat + r.bank1.toNat) (a.toNat - 0x4000)) ∧
    (0xA000 ≤ a.toNat → a.toNat < 0xC000 → c.read a = ramAt c r.ramEnable high (a.toNat - 0xA000) ∧
      c.write a v = ramPut c r.ramEnable high (a.toNat - 0xA000) v)

/-- The day counter of a clock (R69). -/
def day (r : Rtc) : Nat := 256 * (if r.dh.getLsbD 0 then 1 else 0) + r.dl.toNat

/-- One PPU step without its requests. -/
def ppuDot (color : Bool) (p : Ppu) : Ppu := (p.step color).1

/-- The mode number of STAT bits 1:0 (R60). -/
def modeNumber (m : PpuMode) : Nat :=
  match m with
  | .hblank => 0
  | .vblank => 1
  | .oamScan => 2
  | .drawing => 3

/-- Whether OAM entry `k` covers the line, by its Y byte alone (R463, R464). -/
def covers (p : Ppu) (k : Nat) : Bool :=
  let y := (Memory.read p.oam (4 * k)).toNat
  decide (y ≤ p.ly.toNat + 16) && decide (p.ly.toNat + 16 < y + (if p.lcdc.getLsbD 2 then 16 else 8))

/-- The entry selected for OAM entry `k` (R61). -/
def entry (p : Ppu) (k : Nat) : ObjEntry := ⟨k, Memory.read p.oam (4 * k), Memory.read p.oam (4 * k + 1), false⟩

/-- No host access is among the coming events: what is left is what the environment may do (R505). -/
def hostFree (s : State) : Prop :=
  ∀ gap ∈ s.external, ∀ e ∈ gap, (∀ a, e ≠ .hostRead a) ∧ ∀ a v, e ≠ .hostWrite a v

/-- Nothing happens in the next `n` gaps. -/
def quiet (n : Nat) (s : State) : Prop := ∀ gap ∈ s.external.take n, gap = []

/-- Two decimal digits as a BCD byte. -/
def bcd (n : Nat) : Byte := BitVec.ofNat 8 (16 * (n / 10 % 10) + n % 10)

end Sys2Proof.Claims

open Sys2Proof Sys2Proof.Machine Sys2Proof.Claims

/-! ### Encoding -/

/-- R200–R214: decoding the encoded bytes of any well-formed instruction gives it back, and leaves the bytes after it.
The encoder is the model's own. -/
def Obligations.DecodeOfEncode : Prop :=
  ∀ (i : Instr) (rest : List Byte), WellFormed i = true → decode (encode i ++ rest) = .ok (i, rest)

/-- R200–R214: what decodes is well-formed, and its encoding is the bytes it was read from. The encoder is the model's
own. -/
def Obligations.EncodeOfDecode : Prop :=
  ∀ (bytes rest : List Byte) (i : Instr), decode bytes = .ok (i, rest) → WellFormed i = true ∧ encode i ++ rest = bytes

/-- R200, R209, R213: every first byte, and every byte after 0xCB, is bound; the first byte fixes the length, 1, 2 or
3 bytes; too few bytes decode to nothing. -/
def Obligations.EveryByteIsBound : Prop :=
  (∀ (op : Byte) (rest : List Byte), instrLength op ≤ rest.length + 1 →
    ∃ i, decode (op :: rest) = .ok (i, rest.drop (instrLength op - 1))) ∧
  (∀ (op2 : Byte) (rest : List Byte), decode (0xCB#8 :: op2 :: rest) = .ok (cbInstr op2, rest)) ∧
  (∀ op : Byte, instrLength op =
    if op ∈ [0x01#8, 0x11#8, 0x21#8, 0x31#8, 0x08#8, 0xC2#8, 0xC3#8, 0xC4#8, 0xCA#8, 0xCC#8, 0xCD#8, 0xD2#8, 0xD4#8,
        0xDA#8, 0xDC#8, 0xEA#8, 0xFA#8] then 3
    else if op ∈ [0x06#8, 0x0E#8, 0x16#8, 0x1E#8, 0x26#8, 0x2E#8, 0x36#8, 0x3E#8, 0x18#8, 0x20#8, 0x28#8, 0x30#8, 0x38#8,
        0xC6#8, 0xCE#8, 0xD6#8, 0xDE#8, 0xE6#8, 0xEE#8, 0xF6#8, 0xFE#8, 0xE0#8, 0xF0#8, 0xE8#8, 0xF8#8, 0x10#8, 0xCB#8] then 2
    else 1) ∧
  (∀ (op : Byte) (rest : List Byte), rest.length + 1 < instrLength op → decode (op :: rest) = .error (.truncated op)) ∧
  (∀ (i : Instr) (op : Byte) (rest : List Byte), encode i = op :: rest → rest.length + 1 = instrLength op)

/-- R209, R210: words written out from the spec's tables decode to the instructions they stand for. -/
def Obligations.SampleWordsDecode : Prop :=
  decode [0b01000001#8] = .ok (.ld_b_c, []) ∧
  decode [0b00000001#8, 0xF0#8, 0x0F#8] = .ok (.ld_bc_n16 0x0FF0#16, []) ∧
  decode [0b10000110#8] = .ok (.add_a_mhl, []) ∧
  decode [0b00101001#8] = .ok (.add_hl_hl, []) ∧
  decode [0b11001011#8, 0b00110111#8] = .ok (.swap_a, []) ∧
  decode [0b11001011#8, 0b01111100#8] = .ok (.bit_7_h, []) ∧
  decode [0b11000010#8, 0x50#8, 0x01#8] = .ok (.jp_nz_a16 0x0150#16, []) ∧
  decode [0b01110110#8] = .ok (.halt, [])

/-! ### Registers and flags -/

/-- R30, R31, R33: the byte views share the cells of the pairs; a view's write changes its byte alone, F apart, and F
reads with its low nibble 0. That F's low nibble reads 0 is the spec's own decision D12 (log entry 16). -/
def Obligations.RegisterViews : Prop :=
  (∀ (s : State) (r r' : Reg8) (v : Byte), (s.setR8 r v).r8 r' = (if r' = r then v else s.r8 r') ∧ (s.setR8 r v).f = s.f) ∧
  (∀ s : State, s.r16 .bc = s.r8 .b ++ s.r8 .c ∧ s.r16 .de = s.r8 .d ++ s.r8 .e ∧ s.r16 .hl = s.r8 .h ++ s.r8 .l ∧
    s.r16 .af = s.r8 .a ++ s.f) ∧
  (∀ (s : State) (r r' : Reg16) (w : Word),
    (s.setR16 r w).r16 r' = if r' = r then (if r = .af then w &&& 0xFFF0#16 else w) else s.r16 r') ∧
  (∀ s : State, s.f &&& 0x0F#8 = 0#8) ∧
  (∀ (s : State) (f : Flags), (s.setFlags f).flags = f ∧ (s.setFlags f).r8 .a = s.r8 .a ∧
    (s.setFlags f).f = BitVec.ofBool f.z ++ BitVec.ofBool f.n ++ BitVec.ofBool f.h ++ BitVec.ofBool f.c ++ 0#4)

/-! ### 8-bit loads -/

/-- R231, R232: `LD r,r'` (0x40–0x7F without (HL)) and `LD r,n8`: every register pair, every byte; nothing else
changes. -/
def Obligations.RegisterLoads : Prop :=
  (∀ (y z : BitVec 3) (r r' : Reg8) (n : Word) (s : State), Loc8.ofCode y = .reg r → Loc8.ofCode z = .reg r' →
    exec (opInstr (0b01#2 ++ y ++ z) n) s = .next ((s.setR8 r (s.r8 r')).charge 1)) ∧
  (∀ (y : BitVec 3) (r : Reg8) (n : Word) (s : State), Loc8.ofCode y = .reg r →
    exec (opInstr (0b00#2 ++ y ++ 0b110#3) n) s = .next ((s.setR8 r (loByte n)).charge 2))

/-- R233, R236, R237, R242–R244, R246, R248: the loads from the bus complete with the byte read wherever the bus has
one, and fault in 0xFF71–0xFF7F with nothing else changed. -/
def Obligations.LoadsFromMemory : Prop :=
  (∀ (s : State) (m : Word) (k v : Byte) (i : Instr) (r : Reg8) (a : Word) (n : Nat), (i, r, a, n) ∈ memoryLoads s m k →
    s.busRead a = some v → exec i s = .next (((s.afterRead a).setR8 r v).charge n)) ∧
  (∀ (s : State) (v : Byte), s.busRead s.regs.hl = some v →
    exec .ld_a_mhli s =
      .next ((((s.afterRead s.regs.hl).setR8 .a v).setR16 .hl (s.regs.hl + 1)).charge 2) ∧
    exec .ld_a_mhld s =
      .next ((((s.afterRead s.regs.hl).setR8 .a v).setR16 .hl (s.regs.hl - 1)).charge 2)) ∧
  (∀ (s : State) (m : Word) (k : Byte) (i : Instr) (r : Reg8) (a : Word) (n : Nat), (i, r, a, n) ∈ memoryLoads s m k →
    regionOf a = .hole → exec i s = .next { s with runState := .faulted .busOutOfRange a }) ∧
  (∀ s : State, regionOf s.regs.hl = .hole →
    exec .ld_a_mhli s = .next { s with runState := .faulted .busOutOfRange s.regs.hl } ∧
    exec .ld_a_mhld s = .next { s with runState := .faulted .busOutOfRange s.regs.hl })

/-- R234, R235, R238–R241, R245, R247, R249: the stores complete with the state after the bus write of that byte at
that address, and fault in 0xFF71–0xFF7F with nothing else changed. -/
def Obligations.StoresToMemory : Prop :=
  (∀ (s t : State) (m : Word) (k v : Byte) (i : Instr) (a : Word) (n : Nat), (i, a, v, n) ∈ memoryStores s m k →
    s.busWrite a v = some t → exec i s = .next (t.charge n)) ∧
  (∀ s t : State, s.busWrite s.regs.hl (s.r8 .a) = some t →
    exec .ld_mhli_a s = .next ((t.setR16 .hl (s.regs.hl + 1)).charge 2) ∧
    exec .ld_mhld_a s = .next ((t.setR16 .hl (s.regs.hl - 1)).charge 2)) ∧
  (∀ (s : State) (m : Word) (k v : Byte) (i : Instr) (a : Word) (n : Nat), (i, a, v, n) ∈ memoryStores s m k →
    regionOf a = .hole → exec i s = .next { s with runState := .faulted .busOutOfRange a }) ∧
  (∀ s : State, regionOf s.regs.hl = .hole →
    exec .ld_mhli_a s = .next { s with runState := .faulted .busOutOfRange s.regs.hl } ∧
    exec .ld_mhld_a s = .next { s with runState := .faulted .busOutOfRange s.regs.hl })

/-! ### 16-bit loads and the stack -/

/-- R260, R262, R263: `LD rr,n16`, `LD SP,HL` and `LD HL,SP+e8`; only the last changes flags. -/
def Obligations.WordLoads : Prop :=
  (∀ (p : BitVec 2) (n : Word) (s : State),
    exec (opInstr (0b00#2 ++ p ++ 0b0001#4) n) s = .next ((s.setR16 (Reg16.ofRp p) n).charge 3)) ∧
  (∀ s : State, exec .ld_sp_hl s = .next ((s.setR16 .sp s.regs.hl).charge 2)) ∧
  (∀ (s : State) (e : Byte),
    exec (.ld_hl_sp_e8 e) s =
      .next (((s.setR16 .hl (spRule s.regs.sp e).1).setFlags (spRule s.regs.sp e).2).charge 3))

/-- R130, R131, R261, R264–R266: `LD (a16),SP` stores the low byte first; PUSH stores the high byte at SP − 1, then
the low byte at SP − 2; POP reads the low byte at SP, then the high byte at SP + 1, and `POP AF` stores F's low nibble
as 0; an access in 0xFF71–0xFF7F faults, and what was done before it stays. That POP AF masks F's low nibble is the
spec's own decision D12. -/
def Obligations.StackOperations : Prop :=
  (∀ (s t u : State) (n : Word), s.busWrite n (loByte s.regs.sp) = some t → t.busWrite (n + 1) (hiByte s.regs.sp) = some u →
    exec (.ld_ma16_sp n) s = .next (u.charge 5)) ∧
  (∀ (p : BitVec 2) (n : Word) (s t u : State),
    (s.setR16 .sp (s.regs.sp - 1)).busWrite (s.regs.sp - 1) (hiByte (s.r16 (Reg16.ofRp2 p))) = some t →
    (t.setR16 .sp (s.regs.sp - 2)).busWrite (s.regs.sp - 2) (loByte (s.r16 (Reg16.ofRp2 p))) = some u →
    exec (opInstr (0b11#2 ++ p ++ 0b0101#4) n) s = .next (u.charge 4)) ∧
  (∀ (s : State) (n : Word), regionOf n = .hole → exec (.ld_ma16_sp n) s = .next (s.raiseFault n)) ∧
  (∀ (s t : State) (n : Word), s.busWrite n (loByte s.regs.sp) = some t → regionOf (n + 1) = .hole →
    exec (.ld_ma16_sp n) s = .next (t.raiseFault (n + 1))) ∧
  (∀ (p : BitVec 2) (n : Word) (s : State), regionOf (s.regs.sp - 1) = .hole →
    exec (opInstr (0b11#2 ++ p ++ 0b0101#4) n) s =
      .next ((s.setR16 .sp (s.regs.sp - 1)).raiseFault (s.regs.sp - 1))) ∧
  (∀ (p : BitVec 2) (n : Word) (s t : State),
    (s.setR16 .sp (s.regs.sp - 1)).busWrite (s.regs.sp - 1) (hiByte (s.r16 (Reg16.ofRp2 p))) = some t →
    regionOf (s.regs.sp - 2) = .hole →
    exec (opInstr (0b11#2 ++ p ++ 0b0101#4) n) s =
      .next ((t.setR16 .sp (s.regs.sp - 2)).raiseFault (s.regs.sp - 2))) ∧
  (∀ (p : BitVec 2) (n : Word) (s : State) (lo hi : Byte), s.busRead s.regs.sp = some lo →
    (s.afterRead s.regs.sp).busRead (s.regs.sp + 1) = some hi →
    exec (opInstr (0b11#2 ++ p ++ 0b0001#4) n) s =
      .next (((((s.afterRead s.regs.sp).afterRead (s.regs.sp + 1)).setR16 .sp (s.regs.sp + 2)).setR16 (Reg16.ofRp2 p)
        (hi ++ lo)).charge 3)) ∧
  (∀ (p : BitVec 2) (n : Word) (s : State), regionOf s.regs.sp = .hole →
    exec (opInstr (0b11#2 ++ p ++ 0b0001#4) n) s = .next (s.raiseFault s.regs.sp)) ∧
  (∀ (p : BitVec 2) (n : Word) (s : State), regionOf s.regs.sp ≠ .hole → regionOf (s.regs.sp + 1) = .hole →
    exec (opInstr (0b11#2 ++ p ++ 0b0001#4) n) s =
      .next (((s.afterRead s.regs.sp).setR16 .sp (s.regs.sp + 1)).raiseFault (s.regs.sp + 1)))

/-! ### 8-bit arithmetic -/

/-- R280–R304: the eight ALU operations on a register, on the byte at HL and on an immediate: the new A and all four
flags in plain arithmetic. -/
def Obligations.AluOperations : Prop :=
  (∀ (y z : BitVec 3) (r : Reg8) (n : Word) (s : State), Loc8.ofCode z = .reg r →
    let e := aluRule (AluOp.ofCode y) (s.r8 .a) (s.r8 r) s.flags.c
    exec (opInstr (0b10#2 ++ y ++ z) n) s = .next (((s.setR8 .a e.1).setFlags e.2).charge 1)) ∧
  (∀ (y : BitVec 3) (v : Byte) (n : Word) (s : State), s.busRead s.regs.hl = some v →
    let e := aluRule (AluOp.ofCode y) (s.r8 .a) v s.flags.c
    exec (opInstr (0b10#2 ++ y ++ 0b110#3) n) s =
      .next ((((s.afterRead s.regs.hl).setR8 .a e.1).setFlags e.2).charge 2)) ∧
  (∀ (y : BitVec 3) (n : Word) (s : State), regionOf s.regs.hl = .hole →
    exec (opInstr (0b10#2 ++ y ++ 0b110#3) n) s = .next (s.raiseFault s.regs.hl)) ∧
  (∀ (y : BitVec 3) (n : Word) (s : State),
    let e := aluRule (AluOp.ofCode y) (s.r8 .a) (loByte n) s.flags.c
    exec (opInstr (0b11#2 ++ y ++ 0b110#3) n) s = .next (((s.setR8 .a e.1).setFlags e.2).charge 2))

/-- R305–R308: INC and DEC of a register and of the byte at HL: the result modulo 256, Z, N, H, and C unchanged. -/
def Obligations.IncrementAndDecrement : Prop :=
  (∀ (y : BitVec 3) (r : Reg8) (n : Word) (s : State), Loc8.ofCode y = .reg r →
    exec (opInstr (0b00#2 ++ y ++ 0b100#3) n) s =
      .next (((s.setR8 r (BitVec.ofNat 8 ((s.r8 r).toNat + 1))).setFlags
        ⟨decide ((s.r8 r).toNat = 255), false, decide ((s.r8 r).toNat % 16 = 15), s.flags.c⟩).charge 1) ∧
    exec (opInstr (0b00#2 ++ y ++ 0b101#3) n) s =
      .next (((s.setR8 r (BitVec.ofNat 8 ((s.r8 r).toNat + 255))).setFlags
        ⟨decide ((s.r8 r).toNat = 1), true, decide ((s.r8 r).toNat % 16 = 0), s.flags.c⟩).charge 1)) ∧
  (∀ (v : Byte) (s t : State), s.busRead s.regs.hl = some v →
    (s.afterRead s.regs.hl).busWrite s.regs.hl (BitVec.ofNat 8 (v.toNat + 1)) = some t →
    exec .inc_mhl s =
      .next ((t.setFlags ⟨decide (v.toNat = 255), false, decide (v.toNat % 16 = 15), s.flags.c⟩).charge 3)) ∧
  (∀ (v : Byte) (s t : State), s.busRead s.regs.hl = some v →
    (s.afterRead s.regs.hl).busWrite s.regs.hl (BitVec.ofNat 8 (v.toNat + 255)) = some t →
    exec .dec_mhl s =
      .next ((t.setFlags ⟨decide (v.toNat = 1), true, decide (v.toNat % 16 = 0), s.flags.c⟩).charge 3)) ∧
  (∀ s : State, regionOf s.regs.hl = .hole →
    exec .inc_mhl s = .next (s.raiseFault s.regs.hl) ∧ exec .dec_mhl s = .next (s.raiseFault s.regs.hl))

/-- R309–R312: DAA, CPL, SCF and CCF: the new A and every flag; a flag they do not write is unchanged. -/
def Obligations.AccumulatorOperations : Prop :=
  ∀ s : State,
    (let e := daaRule (s.r8 .a) s.flags.n s.flags.h s.flags.c
     exec .daa s =
      .next (((s.setR8 .a (BitVec.ofInt 8 e.1)).setFlags ⟨decide (e.1 % 256 = 0), s.flags.n, false, e.2⟩).charge 1)) ∧
    exec .cpl s =
      .next (((s.setR8 .a (BitVec.ofNat 8 (255 - (s.r8 .a).toNat))).setFlags ⟨s.flags.z, true, true, s.flags.c⟩).charge 1) ∧
    exec .scf s = .next ((s.setFlags ⟨s.flags.z, false, false, true⟩).charge 1) ∧
    exec .ccf s = .next ((s.setFlags ⟨s.flags.z, false, false, !s.flags.c⟩).charge 1)

/-- R309: DAA after ADD or SUB of two BCD bytes leaves the two decimal digits of the sum or difference, with C the
decimal carry or borrow. It follows from the rules of ADD, SUB and DAA. -/
def Obligations.DecimalAdjustIsDecimal : Prop :=
  ∀ m n : Nat, m < 100 → n < 100 → ∀ s : State, s.r8 .a = bcd m →
    (∃ t u, exec (.add_a_n8 (bcd n)) s = .next t ∧ exec .daa t = .next u ∧
      u.r8 .a = bcd ((m + n) % 100) ∧ u.flags.c = decide (100 ≤ m + n) ∧ u.flags.z = decide ((m + n) % 100 = 0)) ∧
    (∃ t u, exec (.sub_n8 (bcd n)) s = .next t ∧ exec .daa t = .next u ∧
      u.r8 .a = bcd ((m + 100 - n) % 100) ∧ u.flags.c = decide (m < n) ∧ u.flags.z = decide (m = n))

/-! ### 16-bit arithmetic -/

/-- R320–R323: INC and DEC of a pair change no flag; `ADD HL,rr` keeps Z and takes H and C from bits 11 and 15; `ADD
SP,e8` takes them from the unsigned low parts. -/
def Obligations.WordArithmetic : Prop :=
  (∀ (p : BitVec 2) (n : Word) (s : State),
    exec (opInstr (0b00#2 ++ p ++ 0b0011#4) n) s =
      .next ((s.setR16 (Reg16.ofRp p) (BitVec.ofNat 16 ((s.r16 (Reg16.ofRp p)).toNat + 1))).charge 2) ∧
    exec (opInstr (0b00#2 ++ p ++ 0b1011#4) n) s =
      .next ((s.setR16 (Reg16.ofRp p) (BitVec.ofNat 16 ((s.r16 (Reg16.ofRp p)).toNat + 0xFFFF))).charge 2)) ∧
  (∀ (p : BitVec 2) (n : Word) (s : State),
    let a := s.regs.hl.toNat
    let b := (s.r16 (Reg16.ofRp p)).toNat
    exec (opInstr (0b00#2 ++ p ++ 0b1001#4) n) s =
      .next (((s.setR16 .hl (BitVec.ofNat 16 (a + b))).setFlags
        ⟨s.flags.z, false, below 0xFFF (a % 0x1000 + b % 0x1000), below 0xFFFF (a + b)⟩).charge 2)) ∧
  (∀ (s : State) (e : Byte),
    exec (.add_sp_e8 e) s = .next (((s.setR16 .sp (spRule s.regs.sp e).1).setFlags (spRule s.regs.sp e).2).charge 4))

/-! ### Rotates, shifts and bits -/

/-- R330–R342: the four rotates of A (Z always 0) and the eight rotates and shifts of the prefixed group on every
operand (Z from the result): result, all four flags, cost. -/
def Obligations.RotatesAndShifts : Prop :=
  (∀ (y : BitVec 2) (n : Word) (s : State),
    let e := shiftRule (ShiftOp.ofCode (0b0#1 ++ y)) (s.r8 .a) s.flags.c
    exec (opInstr (0b000#3 ++ y ++ 0b111#3) n) s =
      .next (((s.setR8 .a (BitVec.ofNat 8 e.1)).setFlags ⟨false, false, false, e.2⟩).charge 1)) ∧
  (∀ (y z : BitVec 3) (r : Reg8) (s : State), Loc8.ofCode z = .reg r →
    let e := shiftRule (ShiftOp.ofCode y) (s.r8 r) s.flags.c
    exec (cbInstr (0b00#2 ++ y ++ z)) s =
      .next (((s.setR8 r (BitVec.ofNat 8 e.1)).setFlags ⟨decide (e.1 = 0), false, false, e.2⟩).charge 2)) ∧
  (∀ (y : BitVec 3) (v : Byte) (s t : State), s.busRead s.regs.hl = some v →
    let e := shiftRule (ShiftOp.ofCode y) v s.flags.c
    (s.afterRead s.regs.hl).busWrite s.regs.hl (BitVec.ofNat 8 e.1) = some t →
    exec (cbInstr (0b00#2 ++ y ++ 0b110#3)) s =
      .next ((t.setFlags ⟨decide (e.1 = 0), false, false, e.2⟩).charge 4)) ∧
  (∀ (y : BitVec 3) (s : State), regionOf s.regs.hl = .hole →
    exec (cbInstr (0b00#2 ++ y ++ 0b110#3)) s = .next (s.raiseFault s.regs.hl))

/-- R343–R345: BIT b tests bit b of the operand and writes only Z, N and H; RES b and SET b clear and set bit b of the
operand, keep its other bits, and change no flag. -/
def Obligations.BitOperations : Prop :=
  (∀ (b z : BitVec 3) (r : Reg8) (s : State), Loc8.ofCode z = .reg r →
    exec (cbInstr (0b01#2 ++ b ++ z)) s =
      .next ((s.setFlags ⟨decide ((s.r8 r).toNat / 2 ^ b.toNat % 2 = 0), false, true, s.flags.c⟩).charge 2)) ∧
  (∀ (b : BitVec 3) (v : Byte) (s : State), s.busRead s.regs.hl = some v →
    exec (cbInstr (0b01#2 ++ b ++ 0b110#3)) s =
      .next (((s.afterRead s.regs.hl).setFlags
        ⟨decide (v.toNat / 2 ^ b.toNat % 2 = 0), false, true, s.flags.c⟩).charge 3)) ∧
  (∀ (b : BitVec 3) (s : State), regionOf s.regs.hl = .hole →
    exec (cbInstr (0b01#2 ++ b ++ 0b110#3)) s = .next (s.raiseFault s.regs.hl)) ∧
  (∀ (b z : BitVec 3) (r : Reg8) (s : State) (w : Byte), Loc8.ofCode z = .reg r →
    ((∀ k, k < 8 → w.getLsbD k = if k = b.toNat then false else (s.r8 r).getLsbD k) →
      exec (cbInstr (0b10#2 ++ b ++ z)) s = .next ((s.setR8 r w).charge 2)) ∧
    ((∀ k, k < 8 → w.getLsbD k = if k = b.toNat then true else (s.r8 r).getLsbD k) →
      exec (cbInstr (0b11#2 ++ b ++ z)) s = .next ((s.setR8 r w).charge 2))) ∧
  (∀ (b : BitVec 3) (s t : State) (v w : Byte), s.busRead s.regs.hl = some v →
    (s.afterRead s.regs.hl).busWrite s.regs.hl w = some t →
    ((∀ k, k < 8 → w.getLsbD k = if k = b.toNat then false else v.getLsbD k) →
      exec (cbInstr (0b10#2 ++ b ++ 0b110#3)) s = .next (t.charge 4)) ∧
    ((∀ k, k < 8 → w.getLsbD k = if k = b.toNat then true else v.getLsbD k) →
      exec (cbInstr (0b11#2 ++ b ++ 0b110#3)) s = .next (t.charge 4))) ∧
  (∀ (b : BitVec 3) (s : State), regionOf s.regs.hl = .hole →
    exec (cbInstr (0b10#2 ++ b ++ 0b110#3)) s = .next (s.raiseFault s.regs.hl) ∧
    exec (cbInstr (0b11#2 ++ b ++ 0b110#3)) s = .next (s.raiseFault s.regs.hl))

/-! ### Control transfer -/

/-- R361–R365: the jumps; PC is already past the instruction, and a relative target wraps modulo 2^16. -/
def Obligations.Jumps : Prop :=
  (∀ (s : State) (a : Word), exec (.jp_a16 a) s = .next ((s.setPc a).charge 4)) ∧
  (∀ (cc : BitVec 2) (a : Word) (s : State),
    exec (opInstr (0b110#3 ++ cc ++ 0b010#3) a) s =
      .next (if holds cc s.flags then (s.setPc a).charge 4 else s.charge 3)) ∧
  (∀ s : State, exec .jp_hl s = .next ((s.setPc s.regs.hl).charge 1)) ∧
  (∀ (s : State) (e : Byte),
    exec (.jr_e8 e) s = .next ((s.setPc (BitVec.ofInt 16 ((s.regs.pc.toNat : Int) + e.toInt))).charge 3)) ∧
  (∀ (cc : BitVec 2) (n : Word) (s : State),
    exec (opInstr (0b001#3 ++ cc ++ 0b000#3) n) s =
      .next (if holds cc s.flags then
        (s.setPc (BitVec.ofInt 16 ((s.regs.pc.toNat : Int) + (loByte n).toInt))).charge 3 else s.charge 2))

/-- R366, R367, R370: a taken CALL and RST push PC, high byte first, and jump; a condition that does not hold costs 3
and does nothing more; a push in 0xFF71–0xFF7F faults, and what was done before it stays. That a fault keeps what was
done before it is the spec's own decision D51; that Faulted is a next state is the model's reading (log entry 11). -/
def Obligations.Calls : Prop :=
  (∀ (s t u : State) (m : Word) (i : Instr) (a : Word) (n : Nat), (i, a, n) ∈ takenCalls s m →
    (s.setR16 .sp (s.regs.sp - 1)).busWrite (s.regs.sp - 1) (hiByte s.regs.pc) = some t →
    (t.setR16 .sp (s.regs.sp - 2)).busWrite (s.regs.sp - 2) (loByte s.regs.pc) = some u →
    exec i s = .next ((u.setPc a).charge n)) ∧
  (∀ (cc : BitVec 2) (a : Word) (s : State), holds cc s.flags = false →
    exec (opInstr (0b110#3 ++ cc ++ 0b100#3) a) s = .next (s.charge 3)) ∧
  (∀ (s : State) (m : Word) (i : Instr) (a : Word) (n : Nat), (i, a, n) ∈ takenCalls s m →
    regionOf (s.regs.sp - 1) = .hole →
    exec i s = .next ((s.setR16 .sp (s.regs.sp - 1)).raiseFault (s.regs.sp - 1))) ∧
  (∀ (s t : State) (m : Word) (i : Instr) (a : Word) (n : Nat), (i, a, n) ∈ takenCalls s m →
    (s.setR16 .sp (s.regs.sp - 1)).busWrite (s.regs.sp - 1) (hiByte s.regs.pc) = some t →
    regionOf (s.regs.sp - 2) = .hole →
    exec i s = .next ((t.setR16 .sp (s.regs.sp - 2)).raiseFault (s.regs.sp - 2)))

/-- R368, R369, R376: a taken RET and RETI pop PC, and RETI sets IME at once and drops a pending EI; a condition that
does not hold costs 2 and does nothing more; a pop in 0xFF71–0xFF7F faults. That RETI sets IME at once is the spec's
own decision D9. -/
def Obligations.Returns : Prop :=
  (∀ (s : State) (lo hi : Byte), s.busRead s.regs.sp = some lo →
    (s.afterRead s.regs.sp).busRead (s.regs.sp + 1) = some hi →
    let t := (((s.afterRead s.regs.sp).afterRead (s.regs.sp + 1)).setR16 .sp (s.regs.sp + 2)).setPc (hi ++ lo)
    (∀ (i : Instr) (n : Nat), (i, n) ∈ takenReturns s → exec i s = .next (t.charge n)) ∧
    exec .reti s = .next ({ t with ime := true, pendingEI := .none }.charge 4)) ∧
  (∀ (cc : BitVec 2) (n : Word) (s : State), holds cc s.flags = false →
    exec (opInstr (0b110#3 ++ cc ++ 0b000#3) n) s = .next (s.charge 2)) ∧
  (∀ (s : State) (i : Instr), i = .reti ∨ (∃ n, (i, n) ∈ takenReturns s) →
    (regionOf s.regs.sp = .hole → exec i s = .next (s.raiseFault s.regs.sp)) ∧
    (regionOf s.regs.sp ≠ .hole → regionOf (s.regs.sp + 1) = .hole →
      exec i s = .next (((s.afterRead s.regs.sp).setR16 .sp (s.regs.sp + 1)).raiseFault (s.regs.sp + 1))))

/-! ### System -/

/-- R390–R395: NOP, HALT, STOP, DI and EI, and the prefix row, which is the prefixed table's instruction and completes
in two machine cycles on a register operand. The details are the spec's own decisions D6, D7, D8, D10 and D11. -/
def Obligations.SystemInstructions : Prop :=
  ∀ s : State,
    exec .nop s = .next (s.charge 1) ∧
    exec .halt s = .next ({ s with runState := .halted }.charge 1) ∧
    (∀ n : Byte, exec (.stop n) s = .next ({ s with runState := .stopped }.charge 1)) ∧
    exec .di s = .next ({ s with ime := false, pendingEI := .none }.charge 1) ∧
    (s.ime = false → s.pendingEI = .none → exec .ei s = .next ({ s with pendingEI := .delayEnable }.charge 1)) ∧
    (s.ime = true ∨ s.pendingEI ≠ .none → exec .ei s = .next (s.charge 1)) ∧
    (∀ op2 : Byte, exec (.prefix_cb op2) s = exec (cbInstr op2) s) ∧
    (∀ op2 : Byte, op2.toNat % 8 ≠ 6 →
      ∃ t, exec (.prefix_cb op2) s = .next t ∧ t.runState = s.runState ∧ t.cyclesRemaining = s.cyclesRemaining + 8)

/-- R212, R396, R440: exactly the eleven illegal opcodes lock the CPU, with the opcode and the address after it
recorded and nothing else changed. That a lock stops the whole machine is the spec's own decision D51 (log entry 11). -/
def Obligations.IllegalOpcodesLock : Prop :=
  (∀ (op : Byte) (n : Word) (s : State), op ∈ illegalOpcodes →
    exec (opInstr op n) s = .next { s with runState := .locked op s.regs.pc }) ∧
  (∀ (op : Byte) (n : Word) (s t : State), op ∉ illegalOpcodes → s.terminal = false → exec (opInstr op n) s = .next t →
    ∀ (code : Byte) (pc : Word), t.runState ≠ .locked code pc)

/-! ### What all instructions leave alone -/

/-- R40–R42, R397, R443: among all instructions only DI and RETI write IME, only DI, EI and RETI write PendingEI, and
an instruction leaves RunState unless it is HALT, STOP or an illegal opcode, or reached 0xFF71–0xFF7F. The
completeness of these lists is an inference the spec marks. -/
def Obligations.WhoWritesControlState : Prop :=
  ∀ (i : Instr) (s t : State), exec i s = .next t →
    (i ≠ .di → i ≠ .reti → t.ime = s.ime) ∧ (i ≠ .di → i ≠ .ei → i ≠ .reti → t.pendingEI = s.pendingEI) ∧
      (t.runState = s.runState ∨ (i = .halt ∧ t.runState = .halted) ∨ ((∃ n, i = .stop n) ∧ t.runState = .stopped) ∨
      (∃ op ∈ illegalOpcodes, i = opInstr op 0 ∧ t.runState = .locked op s.regs.pc) ∨
      (∃ a : Word, 0xFF71 ≤ a.toNat ∧ a.toNat ≤ 0xFF7F ∧ t.runState = .faulted .busOutOfRange a))

/-- R68, R106: no step changes a byte of ROM, a bank count or the colour mode. It is read from "immutable" of the ROM
bank array and "fixed at construction". -/
def Obligations.RomIsImmutable : Prop :=
  ∀ s t : State, step s = .next t →
    t.cart.rom = s.cart.rom ∧ t.cart.romBanks = s.cart.romBanks ∧ t.cart.ramBanks = s.cart.ramBanks ∧
      t.colorMode = s.colorMode

/-- R121, R135: the frame of every storing instruction. Where it stores to plain memory, every byte outside the bytes
it stores reads as before; the addresses are computed as the instructions compute them. Which memory a byte lives in
rests on the spec's own decisions D46 and D34. -/
def Obligations.StoringInstructionFrames : Prop :=
  (∀ (s t : State) (m : Word) (k : Byte) (i : Instr) (a : Word), s.memoriesWf = true → (i, a) ∈ byteStores s m k →
    plain a = true → exec i s = .next t → ∀ b : Word, ¬ sameByte s a b → t.busRead b = s.busRead b) ∧
  (∀ (s t : State) (m : Word) (i : Instr) (a a' : Word), s.memoriesWf = true → (i, a, a') ∈ wordStores s m →
    plain a = true → plain a' = true → exec i s = .next t →
    ∀ b : Word, ¬ sameByte s a b → ¬ sameByte s a' b → t.busRead b = s.busRead b)

/-! ### One step -/

/-- R220, R410–R412: at a dispatch dot of a running CPU with no interrupt to take, a step fetches the bytes at PC,
runs the instruction they decode to, applies the EI transition, and then the PPU and the DMA engine move one dot; a
fetch that faults ends the dot. What a step is, is the model's choice (log entry 7). -/
def Obligations.StepRunsDecodedInstruction : Prop :=
  (∀ (s s' t u : State) (bytes : List Byte) (i : Instr), s.takeEvents = s' →
    s'.runState = .running → s'.cyclesRemaining ≤ 1 → (s'.ime = false ∨ s'.pending = 0#5) →
    { s' with cyclesRemaining := 0 }.fetchInstr = .ok bytes t → decode bytes = .ok (i, []) → exec i t = .next u →
    step s = .next (if u.terminal then u else u.applyPendingEI.ppuStep.dmaStep)) ∧
  (∀ s s' t : State, s.takeEvents = s' → s'.runState = .running → s'.cyclesRemaining ≤ 1 →
    (s'.ime = false ∨ s'.pending = 0#5) → { s' with cyclesRemaining := 0 }.fetchInstr = .stop t → step s = .next t)

/-- R442: every step has a next state: no fetched byte is without an instruction, and no instruction is refused. The
spec marks it as derived; that Lock and Fault are next states is the model's reading (log entry 11). -/
def Obligations.EveryStepAnswers : Prop := ∀ s : State, ∃ t, step s = .next t

/-- R35, R220, R221, R137: a fetch takes as many bytes as the first one asks for, from PC on, through the bus; PC is
then past them and nothing else has changed but the count of environment draws. A fetch in 0xFF71–0xFF7F faults with
PC there (the place of PC is the model's reading, log entry 12). -/
def Obligations.FetchReadsBytesAtPc : Prop :=
  (∀ (s t : State) (bytes : List Byte), s.fetchInstr = .ok bytes t →
    (∃ op rest, bytes = op :: rest ∧ bytes.length = instrLength op) ∧
    t = { s with regs := { s.regs with pc := s.regs.pc + BitVec.ofNat 16 bytes.length }, envDraws := t.envDraws } ∧
    ∀ (k : Nat) (b : Byte), bytes[k]? = some b → isEnvAddr (s.regs.pc + BitVec.ofNat 16 k) = false →
      s.busRead (s.regs.pc + BitVec.ofNat 16 k) = some b) ∧
  (∀ s : State, (∀ k : Nat, k < 3 → regionOf (s.regs.pc + BitVec.ofNat 16 k) ≠ .hole) →
    ∃ bytes t, s.fetchInstr = .ok bytes t) ∧
  (∀ s : State, regionOf s.regs.pc = .hole → s.fetchInstr = .stop (s.raiseFault s.regs.pc)) ∧
  (∀ (s : State) (op : Byte) (k : Nat), s.busRead s.regs.pc = some op → 1 ≤ k → k < instrLength op →
    (∀ j : Nat, j < k → regionOf (s.regs.pc + BitVec.ofNat 16 j) ≠ .hole) →
    regionOf (s.regs.pc + BitVec.ofNat 16 k) = .hole →
    ∃ draws, s.fetchInstr = .stop ({ s with
      regs := { s.regs with pc := s.regs.pc + BitVec.ofNat 16 k }, envDraws := draws }.raiseFault
        (s.regs.pc + BitVec.ofNat 16 k)))

/-- R410, R411, R413, R423: while the count is not run out and nothing happens in the gaps, a dot only counts down:
registers and control state stay; and the dot in which the count runs out is a dispatch dot. When the dispatch dot
comes is the spec's own decision D3; that the events of the gaps stand in a list, and none in those gaps is assumed
here, is log entry 9. -/
def Obligations.CountdownLeavesTheCpu : Prop :=
  (∀ (s : State) (n : Nat), s.terminal = false → quiet n s → n < s.cyclesRemaining →
    ∃ t, Sys2Proof.core.run n s = .next t ∧ t.cyclesRemaining = s.cyclesRemaining - n ∧ t.regs = s.regs ∧
      t.ime = s.ime ∧ t.pendingEI = s.pendingEI ∧ t.runState = s.runState ∧ t.ie = s.ie ∧ t.wram = s.wram ∧
      t.hram = s.hram ∧ t.cart = s.cart ∧ t.external = s.external.drop n) ∧
  (∀ s t : State, s.terminal = false → quiet 1 s → s.cyclesRemaining ≤ 1 →
    { s with external := s.external.drop 1, cyclesRemaining := 0 }.dispatch = .next t →
    step s = .next (if t.terminal then t else t.ppuStep.dmaStep))

/-- R391, R392, R410, R412, R424, R440, R441, R505, R506, R522: a Halted CPU idles one machine cycle until an enabled
interrupt is requested, whatever IME is, and a Stopped CPU until IF bit 4 is set; then it goes on at that same dot as
a Running CPU does. Halted with no interrupt enabled it never wakes, whatever the environment does, and the end state
is the one its next dispatch dot sees. A Locked or Faulted machine only takes the events of the gaps: the environment
sets IF bits 2, 3 and 4 and advances the clock, and the CPU stands still for good. It rests on the spec's own
decisions D10, D11, D18, D40, D43 and D51; that a Locked or Faulted machine keeps its RunState through the events of
the gaps is the model's reading (log entry 11), and which state is the end state is log entry 27. -/
def Obligations.WaitingAndWaking : Prop :=
  (∀ s : State,
    (s.runState = .halted → s.pending = 0#5 → s.dispatch = .next { s with cyclesRemaining := 4 }) ∧
    (s.runState = .stopped → s.ifr.getLsbD 4 = false → s.dispatch = .next { s with cyclesRemaining := 4 }) ∧
    (s.runState = .halted → s.pending ≠ 0#5 → s.dispatch = { s with runState := .running }.dispatch) ∧
    (s.runState = .stopped → s.ifr.getLsbD 4 = true → s.dispatch = { s with runState := .running }.dispatch) ∧
    (s.pending = 0#5 ↔ ∀ k, k < 5 → (s.ie.getLsbD k && s.ifr.getLsbD k) = false)) ∧
  (∀ s t : State, s.endState = some t ↔
    s.takeEvents.cyclesRemaining ≤ 1 ∧ s.takeEvents.runState = .halted ∧ (∀ k, k < 5 → s.takeEvents.ie.getLsbD k = false) ∧
      t = { s.takeEvents with cyclesRemaining := 0 }) ∧
  (∀ (s : State) (n : Nat), s.runState = .halted → (∀ k, k < 5 → s.ie.getLsbD k = false) → hostFree s →
    ∃ t, Sys2Proof.core.run n s = .next t ∧ t.runState = .halted ∧ t.regs = s.regs ∧ t.ie = s.ie ∧ t.ime = s.ime ∧
      t.wram = s.wram ∧ t.hram = s.hram) ∧
  (∀ s : State, s.terminal = true → step s = .next s.takeEvents ∧ ∀ n, runOutcome n s = .crashed s) ∧
  (∀ (s : State) (n : Nat), s.terminal = true → ∃ t, Sys2Proof.core.run n s = .next t ∧ t.runState = s.runState ∧
    t.regs = s.regs ∧ t.ime = s.ime ∧ t.pendingEI = s.pendingEI ∧ t.cyclesRemaining = s.cyclesRemaining ∧
    (s.external = [] → t = s)) ∧
  (∀ (s : State) (rest : List (List ExternalEvent)),
    { s with external := [.timerRequest] :: rest }.takeEvents = { s with external := rest, ifr := s.ifr ||| 0b00100#5 } ∧
    { s with external := [.serialRequest] :: rest }.takeEvents = { s with external := rest, ifr := s.ifr ||| 0b01000#5 } ∧
    { s with external := [.joypadRequest] :: rest }.takeEvents = { s with external := rest, ifr := s.ifr ||| 0b10000#5 } ∧
    ∀ k, { s with external := [.rtcAdvance k] :: rest }.takeEvents = { s with external := rest, cart := s.cart.rtcAdvance k })

/-- R420–R422, R425, R426: with IME set the pending interrupt of the lowest bit is taken: its IF bit and IME are
cleared, PC is pushed, PC is the vector and 20 dots pass; a push in 0xFF71–0xFF7F faults. The order of the effects is
the spec's own decision D52. -/
def Obligations.InterruptService : Prop :=
  ∀ (s : State) (i : Irq), s.runState = .running → s.ime = true →
    s.ie.getLsbD i.bit = true → s.ifr.getLsbD i.bit = true →
    (∀ k, k < i.bit → (s.ie.getLsbD k && s.ifr.getLsbD k) = false) →
    let w : State := { s with ifr := s.ifr &&& ~~~(BitVec.twoPow 5 i.bit), ime := false }
    (∀ t u : State, (w.setR16 .sp (s.regs.sp - 1)).busWrite (s.regs.sp - 1) (hiByte s.regs.pc) = some t →
      (t.setR16 .sp (s.regs.sp - 2)).busWrite (s.regs.sp - 2) (loByte s.regs.pc) = some u →
      s.dispatch = .next { u.setPc (BitVec.ofNat 16 (0x40 + 8 * i.bit)) with cyclesRemaining := 20 }) ∧
    (regionOf (s.regs.sp - 1) = .hole →
      s.dispatch = .next ((w.setR16 .sp (s.regs.sp - 1)).raiseFault (s.regs.sp - 1))) ∧
    (∀ t : State, (w.setR16 .sp (s.regs.sp - 1)).busWrite (s.regs.sp - 1) (hiByte s.regs.pc) = some t →
      regionOf (s.regs.sp - 2) = .hole →
      s.dispatch = .next ((t.setR16 .sp (s.regs.sp - 2)).raiseFault (s.regs.sp - 2)))

/-- R395, R430, R541: the instruction after EI always runs before IME is set, and sets it unless it is DI. It rests on
the spec's own decisions D6 and D7. -/
def Obligations.EnableLatency : Prop :=
  (∀ s : State, s.terminal = false → s.ime = false → s.pendingEI = .none →
    ∃ t, afterInstr (exec .ei s) = .next t ∧ t.ime = false ∧ t.pendingEI = .enableNextTick) ∧
  (∀ (i : Instr) (s t : State), s.ime = false → s.pendingEI = .enableNextTick → i ≠ .di → exec i s = .next t →
    t.terminal = false → ∃ u, afterInstr (exec i s) = .next u ∧ u.ime = true ∧ u.pendingEI = .none) ∧
  (∀ s : State, s.terminal = false → ∃ u, afterInstr (exec .di s) = .next u ∧ u.ime = false ∧ u.pendingEI = .none)

/-! ### Invariants -/

/-- The canonical form of every memory is kept by every step (the model's own invariant, of its memories as data). The
form is the model's choice (log entry 4). -/
def Obligations.MemoriesStayCanonical : Prop :=
  ∀ s t : State, s.memoriesWf = true → step s = .next t → t.memoriesWf = true

/-- R33: F's low nibble is stored as 0, and every step keeps it so. It rests on the spec's own decision D12. -/
def Obligations.FlagNibbleStaysClear : Prop :=
  ∀ s t : State, s.flagNibbleClear → step s = .next t → t.flagNibbleClear

/-- R431: IME = 1 implies PendingEI = None, and every step keeps it so. The spec marks the invariant as derived. -/
def Obligations.EnableInvariantKept : Prop :=
  ∀ s t : State, s.eiInvariant → step s = .next t → t.eiInvariant

/-- R51, R60, R61, R461–R463: LY, dot and mode agree, the OAM scan follows the dot and selects at most ten, and every
step keeps it so. The invariant is the model's inference from the line timing (log entry 22). -/
def Obligations.LineAndScanInvariantKept : Prop :=
  ∀ s t : State, s.ppu.lineInv ∧ s.ppu.scanInv → step s = .next t → t.ppu.lineInv ∧ t.ppu.scanInv

/-- R60, R63, R486: at most 160 pixels a line, FIFOs of at most eight pixels and a discard of at most seven, and every
step keeps it so. The invariant is the model's inference from the pipeline's rules (log entry 22). -/
def Obligations.PipelineInvariantKept : Prop :=
  ∀ s t : State, s.ppu.pipeInv → step s = .next t → t.ppu.pipeInv

/-- R67, R495–R497: the bounds of the DMA counters and of its source, and every step keeps them. The invariant is the
model's inference from the DMA rules (log entry 22). -/
def Obligations.DmaInvariantKept : Prop :=
  ∀ s t : State, s.dma.inv → step s = .next t → t.dma.inv

/-- The invariants hold right after reset. Reset is the launch of log entries 1 to 6. -/
def Obligations.InvariantsHoldAtReset : Prop :=
  State.reset.memoriesWf = true ∧ State.reset.flagNibbleClear ∧ State.reset.eiInvariant ∧ State.reset.ppu.lineInv ∧
    State.reset.ppu.scanInv ∧ State.reset.ppu.pipeInv ∧ State.reset.dma.inv

/-! ### The bus -/

/-- R103, R104, R107, R109–R112, R118: what a read of every address gives. The open-bus byte, the fault range and the
blocking are the spec's own decisions D5, D17, D21, D46 and D50. -/
def Obligations.ReadsFollowTheMap : Prop :=
  ∀ (s : State) (a : Word),
    let n := a.toNat
    (n ≤ 0x7FFF ∨ (0xA000 ≤ n ∧ n ≤ 0xBFFF) → s.busRead a = some (s.cart.read a)) ∧
    (0x8000 ≤ n ∧ n ≤ 0x9FFF → s.busRead a = some (if s.dma.active then 0xFF#8 else
      Memory.read s.ppu.vram ((if s.colorMode then s.ppu.vbk.toNat else 0) * 0x2000 + (n - 0x8000)))) ∧
    (0xC000 ≤ n ∧ n ≤ 0xCFFF → s.busRead a = some (Memory.read s.wram (n - 0xC000))) ∧
    (0xD000 ≤ n ∧ n ≤ 0xDFFF → s.busRead a =
      some (Memory.read s.wram ((if s.colorMode then max 1 s.svbk.toNat else 1) * 0x1000 + (n - 0xD000)))) ∧
    (0xE000 ≤ n ∧ n ≤ 0xFDFF → s.busRead a = s.busRead (a - 0x2000#16)) ∧
    (0xFE00 ≤ n ∧ n ≤ 0xFE9F → s.busRead a = some (if s.dma.active ∨ s.ppu.mode = .oamScan ∨ s.ppu.mode = .drawing then 0xFF#8
      else Memory.read s.ppu.oam (n - 0xFE00))) ∧
    (0xFEA0 ≤ n ∧ n ≤ 0xFEFF → s.busRead a = some 0xFF#8) ∧
    (0xFF00 ≤ n ∧ n ≤ 0xFF70 → s.busRead a = some (s.ioRead a)) ∧
    (0xFF71 ≤ n ∧ n ≤ 0xFF7F → s.busRead a = none) ∧
    (0xFF80 ≤ n ∧ n ≤ 0xFFFE → s.busRead a = some (Memory.read s.hram (n - 0xFF80))) ∧
    (n = 0xFFFF → s.busRead a = some s.ie)

/-- R103, R105, R107, R109–R112, R118: what a write of every address does, and nothing more. The dropped writes, the
fault range and the blocking are the spec's own decisions D5, D17, D21, D46 and D50. -/
def Obligations.WritesFollowTheMap : Prop :=
  ∀ (s : State) (a : Word) (v : Byte),
    let n := a.toNat
    (n ≤ 0x7FFF ∨ (0xA000 ≤ n ∧ n ≤ 0xBFFF) → s.busWrite a v = some { s with cart := s.cart.write a v }) ∧
    (0x8000 ≤ n ∧ n ≤ 0x9FFF → s.busWrite a v = some (if s.dma.active then s else { s with ppu := { s.ppu with
      vram := Memory.write s.ppu.vram ((if s.colorMode then s.ppu.vbk.toNat else 0) * 0x2000 + (n - 0x8000)) v } })) ∧
    (0xC000 ≤ n ∧ n ≤ 0xCFFF → s.busWrite a v = some { s with wram := Memory.write s.wram (n - 0xC000) v }) ∧
    (0xD000 ≤ n ∧ n ≤ 0xDFFF → s.busWrite a v = some { s with
      wram := Memory.write s.wram ((if s.colorMode then max 1 s.svbk.toNat else 1) * 0x1000 + (n - 0xD000)) v }) ∧
    (0xE000 ≤ n ∧ n ≤ 0xFDFF → s.busWrite a v = s.busWrite (a - 0x2000#16) v) ∧
    (0xFE00 ≤ n ∧ n ≤ 0xFE9F → s.busWrite a v =
      some (if s.dma.active ∨ s.ppu.mode = .oamScan ∨ s.ppu.mode = .drawing then s
        else { s with ppu := { s.ppu with oam := Memory.write s.ppu.oam (n - 0xFE00) v } })) ∧
    (0xFEA0 ≤ n ∧ n ≤ 0xFEFF → s.busWrite a v = some s) ∧
    (0xFF00 ≤ n ∧ n ≤ 0xFF70 → s.busWrite a v = some (s.ioWrite a v)) ∧
    (0xFF71 ≤ n ∧ n ≤ 0xFF7F → s.busWrite a v = none) ∧
    (0xFF80 ≤ n ∧ n ≤ 0xFFFE → s.busWrite a v = some { s with hram := Memory.write s.hram (n - 0xFF80) v }) ∧
    (n = 0xFFFF → s.busWrite a v = some { s with ie := v })

/-- R135: a byte stored in VRAM, WRAM, echo RAM, OAM, HRAM or IE, where the bus is not blocked, is what the next read
of the address gives. It rests on the canonical form of the memories (log entry 4). -/
def Obligations.ReadAfterWrite : Prop :=
  ∀ (s t : State) (a : Word) (v : Byte), s.memoriesWf = true → s.busWrite a v = some t →
    (regionOf a = .wramFixed ∨ regionOf a = .wramBanked ∨ regionOf a = .echo ∨ regionOf a = .hram ∨ regionOf a = .ie ∨
      (regionOf a = .vram ∧ s.dma.active = false) ∨ (regionOf a = .oam ∧ s.oamBlocked = false)) →
    t.busRead a = some v

/-- R116, R120: a read changes nothing in the machine; at a peripheral address the byte is the environment's next draw
and a write is handed to it. The draw counter and the list of what was handed over are the model's own (log entries 8,
10). -/
def Obligations.ReadsHaveNoSideEffect : Prop :=
  (∀ (s t : State) (a : Word) (v : Byte), s.read a = .ok v t →
    t = { s with envDraws := t.envDraws } ∧ (isEnvAddr a = false → t = s)) ∧
  (∀ (s : State) (a : Word) (v : Byte), 0xFF00 ≤ a.toNat → a.toNat ≤ 0xFF3F → a ≠ 0xFF0F#16 →
    s.read a = .ok (Config.envByte s.envDraws a) { s with envDraws := s.envDraws + 1 } ∧
    s.write a v = .ok () { s with envWrites := (a, v) :: s.envWrites })

/-! ### I/O registers -/

/-- R37, R38: IE keeps all eight bits; IF keeps the low five and reads the upper three as 1. The bits kept and read
are the spec's own decision D15. -/
def Obligations.InterruptRegisters : Prop :=
  ∀ (s : State) (v : Byte),
    s.busRead 0xFFFF#16 = some s.ie ∧ s.busWrite 0xFFFF#16 v = some { s with ie := v } ∧
    s.busRead 0xFF0F#16 = some (0xE0#8 ||| s.ifr.setWidth 8) ∧
    s.busWrite 0xFF0F#16 v = some { s with ifr := BitVec.ofNat 5 (v.toNat % 32) }

/-- R49–R53, R113, R114, R492: STAT keeps bits 6:3 of a write and reads the LYC flag and the mode, LY drops writes,
LYC, SCY, SCX, WY and WX read back, and a write of the DMA register starts a transfer whose source below 0xE000 it
latches (R495). The bits kept and read are the spec's own decisions D22 and D30. -/
def Obligations.LcdRegisters : Prop :=
  ∀ (s : State) (v : Byte),
    s.busWrite 0xFF41#16 v = some { s with ppu := { s.ppu with statSel := BitVec.ofNat 4 (v.toNat / 8 % 16) } } ∧
    s.busRead 0xFF41#16 = some (BitVec.ofNat 8 (128 + 8 * s.ppu.statSel.toNat + (if s.ppu.ly = s.ppu.lyc then 4 else 0) +
      modeNumber s.ppu.mode)) ∧
    s.busRead 0xFF44#16 = some s.ppu.ly ∧ s.busWrite 0xFF44#16 v = some s ∧
    s.busRead 0xFF45#16 = some s.ppu.lyc ∧ s.busWrite 0xFF45#16 v = some { s with ppu := { s.ppu with lyc := v } } ∧
    s.busRead 0xFF42#16 = some s.ppu.scy ∧ s.busWrite 0xFF42#16 v = some { s with ppu := { s.ppu with scy := v } } ∧
    s.busRead 0xFF43#16 = some s.ppu.scx ∧ s.busWrite 0xFF43#16 v = some { s with ppu := { s.ppu with scx := v } } ∧
    s.busRead 0xFF4A#16 = some s.ppu.wy ∧ s.busWrite 0xFF4A#16 v = some { s with ppu := { s.ppu with wy := v } } ∧
    s.busRead 0xFF4B#16 = some s.ppu.wx ∧ s.busWrite 0xFF4B#16 v = some { s with ppu := { s.ppu with wx := v } } ∧
    s.busRead 0xFF40#16 = some s.ppu.lcdc ∧ s.busRead 0xFF46#16 = some s.dma.reg ∧
    s.busWrite 0xFF46#16 v = some { s with dma :=
      { active := true, delay := 8, count := 0, sub := 0, reg := v,
        src := BitVec.ofNat 16 (if v.toNat < 0xE0 then 256 * v.toNat else 256 * v.toNat - 0x2000) } }

/-- R54–R59, R117: the DMG palettes are open bus in colour mode, the colour range is open bus in DMG mode and outside
its six registers, and VBK and SVBK keep their bits. The bits kept and read are the spec's own decisions D19, D44 and
D50. -/
def Obligations.ColourGating : Prop :=
  (∀ (s : State) (v : Byte), s.colorMode = false →
    s.busRead 0xFF47#16 = some s.ppu.bgp ∧ s.busWrite 0xFF47#16 v = some { s with ppu := { s.ppu with bgp := v } } ∧
    s.busRead 0xFF48#16 = some s.ppu.obp0 ∧ s.busWrite 0xFF48#16 v = some { s with ppu := { s.ppu with obp0 := v } } ∧
    s.busRead 0xFF49#16 = some s.ppu.obp1 ∧ s.busWrite 0xFF49#16 v = some { s with ppu := { s.ppu with obp1 := v } }) ∧
  (∀ (s : State) (a : Word) (v : Byte), s.colorMode = true → 0xFF47 ≤ a.toNat → a.toNat ≤ 0xFF49 →
    s.busRead a = some 0xFF#8 ∧ s.busWrite a v = some s) ∧
  (∀ (s : State) (a : Word) (v : Byte), 0xFF4C ≤ a.toNat → a.toNat ≤ 0xFF70 →
    (s.colorMode = false ∨ a ∉ [0xFF4F#16, 0xFF68#16, 0xFF69#16, 0xFF6A#16, 0xFF6B#16, 0xFF70#16]) →
    s.busRead a = some 0xFF#8 ∧ s.busWrite a v = some s) ∧
  (∀ (s : State) (v : Byte), s.colorMode = true →
    s.busRead 0xFF4F#16 = some (BitVec.ofNat 8 (0xFE + s.ppu.vbk.toNat)) ∧
    s.busWrite 0xFF4F#16 v = some { s with ppu := { s.ppu with vbk := BitVec.ofNat 1 (v.toNat % 2) } } ∧
    s.busRead 0xFF70#16 = some (BitVec.ofNat 8 (0xF8 + s.svbk.toNat)) ∧
    s.busWrite 0xFF70#16 v = some { s with svbk := BitVec.ofNat 3 (v.toNat % 8) })

/-- R57, R58: the colour palette ports: a data read leaves the index, a data write stores at the index and steps it
modulo 64 when bit 7 is set, and mode 3 drops every write. They are the spec's own decision D44. -/
def Obligations.PalettePorts : Prop :=
  ∀ (s : State) (v : Byte), s.colorMode = true →
    s.busRead 0xFF69#16 = some (Memory.read s.ppu.bgPalRam (s.ppu.bcps.toNat % 64)) ∧
    s.busRead 0xFF6B#16 = some (Memory.read s.ppu.objPalRam (s.ppu.ocps.toNat % 64)) ∧
    s.busRead 0xFF68#16 = some (s.ppu.bcps ||| 0x40#8) ∧ s.busRead 0xFF6A#16 = some (s.ppu.ocps ||| 0x40#8) ∧
    (s.ppu.mode = .drawing → ∀ a ∈ [0xFF68#16, 0xFF69#16, 0xFF6A#16, 0xFF6B#16], s.busWrite a v = some s) ∧
    (s.ppu.mode ≠ .drawing →
      (∃ t, s.busWrite 0xFF69#16 v = some t ∧
        t = { s with ppu := { s.ppu with
          bgPalRam := Memory.write s.ppu.bgPalRam (s.ppu.bcps.toNat % 64) v, bcps := t.ppu.bcps } } ∧
        (s.ppu.bcps.toNat < 128 → t.ppu.bcps = s.ppu.bcps) ∧
        (128 ≤ s.ppu.bcps.toNat → t.ppu.bcps.toNat = 128 + (s.ppu.bcps.toNat + 1) % 64)) ∧
      (∃ t, s.busWrite 0xFF6B#16 v = some t ∧
        t = { s with ppu := { s.ppu with
          objPalRam := Memory.write s.ppu.objPalRam (s.ppu.ocps.toNat % 64) v, ocps := t.ppu.ocps } } ∧
        (s.ppu.ocps.toNat < 128 → t.ppu.ocps = s.ppu.ocps) ∧
        (128 ≤ s.ppu.ocps.toNat → t.ppu.ocps.toNat = 128 + (s.ppu.ocps.toNat + 1) % 64)) ∧
      s.busWrite 0xFF68#16 v = some { s with ppu := { s.ppu with bcps := v &&& 0xBF#8 } } ∧
      s.busWrite 0xFF6A#16 v = some { s with ppu := { s.ppu with ocps := v &&& 0xBF#8 } })

/-- R494: LCDC and the LCD's turning off and on: off puts LY, dot, LX and the mode at 0 and freezes the PPU; on begins
a new frame; a write that does not turn it keeps everything else. It is the spec's own decision D29. -/
def Obligations.LcdOnAndOff : Prop :=
  (∀ (s : State) (v : Byte), s.ppu.lcdOnPrev = true → v.getLsbD 7 = false →
    s.busWrite 0xFF40#16 v = some { s with ppu := { s.ppu with
      lcdc := v, lcdOnPrev := false, ly := 0, dot := 0, lx := 0, mode := .hblank, statLine := false } }) ∧
  (∀ (s : State) (v : Byte), s.ppu.lcdOnPrev = false → v.getLsbD 7 = true →
    s.busWrite 0xFF40#16 v = some { s with ppu := { s.ppu with
      lcdc := v, lcdOnPrev := true, ly := 0, dot := 0, lx := 0, mode := .oamScan, scanIndex := 0, scanMicro := .readY,
      selected := [], windowLine := 0, windowDrawnThisLine := false, wyTriggered := decide (s.ppu.wy = 0#8) } }) ∧
  (∀ (s : State) (v : Byte), s.ppu.lcdOnPrev = v.getLsbD 7 →
    s.busWrite 0xFF40#16 v = some { s with ppu := { s.ppu with lcdc := v } }) ∧
  (∀ (color : Bool) (p : Ppu), p.lcdc.getLsbD 7 = false → p.step color = (p, 0#5))

/-! ### The cartridge -/

/-- R153, R160–R166, R168, R169: MBC1 has a 5-bit bank register and MBC1M a 4-bit one; in both, writing 0 and writing
1 leave the same bank, and bank numbers are masked into the banks there are. It rests on the spec's own decisions D31,
D32 and D33. -/
def Obligations.Mbc1Cartridges : Prop := mbc1Rules 5 .mbc1 ∧ mbc1Rules 4 .mbc1m

/-- R170–R174: MBC2: address bit 8 tells the two control writes apart, and 512 four-bit entries are echoed through the
RAM window. It rests on the spec's own decisions D32 and D34. -/
def Obligations.Mbc2Cartridge : Prop :=
  ∀ (c : Cart) (r : Mbc2Regs) (a : Word) (v : Byte), bankCounts c → c.mbc = .mbc2 r →
    (a.toNat < 0x4000 → a.toNat / 256 % 2 = 0 →
      c.write a v = { c with mbc := .mbc2 { r with ramEnable := decide (v.toNat % 16 = 10) } }) ∧
    (a.toNat < 0x4000 → a.toNat / 256 % 2 = 1 →
      c.write a v = { c with mbc := .mbc2 { r with romBank := BitVec.ofNat 4 (aliased (v.toNat % 16)) } }) ∧
    (0x4000 ≤ a.toNat → a.toNat < 0x8000 → c.write a v = c) ∧
    (a.toNat < 0x4000 → c.read a = romAt c 0 a.toNat) ∧
    (0x4000 ≤ a.toNat → a.toNat < 0x8000 → c.read a = romAt c r.romBank.toNat (a.toNat - 0x4000)) ∧
    (0xA000 ≤ a.toNat → a.toNat < 0xC000 → r.ramEnable = false → c.read a = 0xFF#8 ∧ c.write a v = c) ∧
    (0xA000 ≤ a.toNat → a.toNat < 0xC000 → r.ramEnable = true →
      c.read a = 0xF0#8 ||| Memory.read c.ram (a.toNat % 512) ∧
      c.write a v = { c with ram := Memory.write c.ram (a.toNat % 512) (BitVec.ofNat 8 (v.toNat % 16)) })

/-- R175–R181, R183: MBC3: the control writes with the clock's latch, the ROM banks, and the select register choosing
a RAM bank, a latched clock register, or nothing. It rests on the spec's own decisions D32 and D35. -/
def Obligations.Mbc3Cartridge : Prop :=
  ∀ (c : Cart) (r : Mbc3Regs) (a : Word) (v : Byte), bankCounts c → c.mbc = .mbc3 r →
    (a.toNat < 0x2000 → c.write a v = { c with mbc := .mbc3 { r with ramEnable := decide (v.toNat % 16 = 10) } }) ∧
    (0x2000 ≤ a.toNat → a.toNat < 0x4000 →
      c.write a v = { c with mbc := .mbc3 { r with romBank := BitVec.ofNat 7 (aliased (v.toNat % 128)) } }) ∧
    (0x4000 ≤ a.toNat → a.toNat < 0x6000 → c.write a v = { c with mbc := .mbc3 { r with select := v } }) ∧
    (0x6000 ≤ a.toNat → a.toNat < 0x8000 → c.write a v = { c with mbc := .mbc3 { r with
      latchPrev := v
      latched := if r.latchPrev = 0#8 ∧ v = 1#8 ∧ r.hasRtc = true then r.live else r.latched } }) ∧
    (a.toNat < 0x4000 → c.read a = romAt c 0 a.toNat) ∧
    (0x4000 ≤ a.toNat → a.toNat < 0x8000 → c.read a = romAt c r.romBank.toNat (a.toNat - 0x4000)) ∧
    (0xA000 ≤ a.toNat → a.toNat < 0xC000 →
      (r.select.toNat ≤ 3 → c.read a = ramAt c r.ramEnable r.select.toNat (a.toNat - 0xA000) ∧
        c.write a v = ramPut c r.ramEnable r.select.toNat (a.toNat - 0xA000) v) ∧
      (r.ramEnable = true → r.hasRtc = true →
        (r.select = 0x08#8 → c.read a = BitVec.ofNat 8 r.latched.s.toNat ∧
          c.write a v = { c with mbc := .mbc3 { r with live := { r.live with s := BitVec.ofNat 6 (v.toNat % 64) } } }) ∧
        (r.select = 0x09#8 → c.read a = BitVec.ofNat 8 r.latched.m.toNat ∧
          c.write a v = { c with mbc := .mbc3 { r with live := { r.live with m := BitVec.ofNat 6 (v.toNat % 64) } } }) ∧
        (r.select = 0x0A#8 → c.read a = BitVec.ofNat 8 r.latched.hr.toNat ∧
          c.write a v = { c with mbc := .mbc3 { r with live := { r.live with hr := BitVec.ofNat 5 (v.toNat % 32) } } }) ∧
        (r.select = 0x0B#8 → c.read a = r.latched.dl ∧
          c.write a v = { c with mbc := .mbc3 { r with live := { r.live with dl := v } } }) ∧
        (r.select = 0x0C#8 → c.read a = r.latched.dh &&& 0xC1#8 ∧
          c.write a v = { c with mbc := .mbc3 { r with live := { r.live with dh := v &&& 0xC1#8 } } })) ∧
      (4 ≤ r.select.toNat → (r.ramEnable = false ∨ r.hasRtc = false ∨ r.select.toNat < 8 ∨ 12 < r.select.toNat) →
        c.read a = 0xFF#8 ∧ c.write a v = c))

/-- R182, R184, R185: a day of time on a clock that is not halted, from any valid time, is one more day, and day 511
overflows: the carry flag is set and the counter wraps; a halted clock stands still. The spec marks the property as
derived; the carry rule is its own decision D35. -/
def Obligations.ClockAdvancesOneDay : Prop :=
  (∀ (c : Cart) (r : Mbc3Regs), c.mbc = .mbc3 r → r.hasRtc = true → r.live.dh.getLsbD 6 = false →
    r.live.s.toNat < 60 → r.live.m.toNat < 60 → r.live.hr.toNat < 24 →
    ∃ r', c.rtcAdvance 86400 = { c with mbc := .mbc3 { r with live := r' } } ∧ r'.s = r.live.s ∧ r'.m = r.live.m ∧
      r'.hr = r.live.hr ∧ day r' = (day r.live + 1) % 512 ∧ r'.dh.getLsbD 6 = false ∧
      r'.dh.getLsbD 7 = (r.live.dh.getLsbD 7 || decide (day r.live = 511))) ∧
  (∀ (c : Cart) (r : Mbc3Regs) (k : Nat), c.mbc = .mbc3 r → r.live.dh.getLsbD 6 = true → c.rtcAdvance k = c)

/-- R155–R157, R190–R195: No-MBC maps banks 0 and 1 directly, has RAM without a gate and no control register; MBC5:
the whole byte enables RAM, a 9-bit ROM bank in two writes with bank 0 selectable, and the RAM bank with the rumble
bit. It rests on the spec's own decisions D31, D32 and D36. -/
def Obligations.NoMbcAndMbc5Cartridges : Prop :=
  (∀ (c : Cart) (a : Word) (v : Byte), bankCounts c → c.mbc = .noMbc →
    (a.toNat < 0x4000 → c.read a = romAt c 0 a.toNat ∧ c.write a v = c) ∧
    (0x4000 ≤ a.toNat → a.toNat < 0x8000 → c.read a = romAt c 1 (a.toNat - 0x4000) ∧ c.write a v = c) ∧
    (0xA000 ≤ a.toNat → a.toNat < 0xC000 →
      c.read a = ramAt c true 0 (a.toNat - 0xA000) ∧ c.write a v = ramPut c true 0 (a.toNat - 0xA000) v)) ∧
  (∀ (c : Cart) (r : Mbc5Regs) (a : Word) (v : Byte), bankCounts c → c.mbc = .mbc5 r →
    (a.toNat < 0x2000 → c.write a v = { c with mbc := .mbc5 { r with ramEnable := decide (v = 0x0A#8) } }) ∧
    (0x2000 ≤ a.toNat → a.toNat < 0x3000 → c.write a v =
      { c with mbc := .mbc5 { r with romBank := BitVec.ofNat 9 (r.romBank.toNat / 256 * 256 + v.toNat) } }) ∧
    (0x3000 ≤ a.toNat → a.toNat < 0x4000 → c.write a v =
      { c with mbc := .mbc5 { r with romBank := BitVec.ofNat 9 (v.toNat % 2 * 256 + r.romBank.toNat % 256) } }) ∧
    (0x4000 ≤ a.toNat → a.toNat < 0x6000 → c.write a v = { c with mbc := .mbc5 { r with
      rumble := if r.hasRumble then decide (v.toNat / 8 % 2 = 1) else r.rumble
      ramBank := BitVec.ofNat 4 (if r.hasRumble then v.toNat % 8 else v.toNat % 16) } }) ∧
    (0x6000 ≤ a.toNat → a.toNat < 0x8000 → c.write a v = c) ∧
    (a.toNat < 0x4000 → c.read a = romAt c 0 a.toNat) ∧
    (0x4000 ≤ a.toNat → a.toNat < 0x8000 → c.read a = romAt c r.romBank.toNat (a.toNat - 0x4000)) ∧
    (0xA000 ≤ a.toNat → a.toNat < 0xC000 → c.read a = ramAt c r.ramEnable r.ramBank.toNat (a.toNat - 0xA000) ∧
      c.write a v = ramPut c r.ramEnable r.ramBank.toNat (a.toNat - 0xA000) v))

/-! ### DMA and PPU -/

/-- R495, R496, R497: a started transfer is active for exactly 648 DMA steps and leaves the 160 bytes of its source in
OAM, byte k in step 8 + 4k. The number of steps is the spec's own decision D22. -/
def Obligations.DmaCopiesOam : Prop :=
  ∀ (s : State) (v : Byte), s.memoriesWf = true →
    let start : State := { s with dma := Dma.start v }
    (∀ n, n < 648 → (iterate State.dmaStep n start).dma.active = true) ∧
    (iterate State.dmaStep 648 start).dma.active = false ∧
    (∀ k, k < 160 → Memory.read (iterate State.dmaStep (9 + 4 * k) start).ppu.oam k =
      s.dmaRead (start.dma.src + BitVec.ofNat 16 k)) ∧
    (∀ k, k < 160 → Memory.read (iterate State.dmaStep 648 start).ppu.oam k =
      s.dmaRead (start.dma.src + BitVec.ofNat 16 k)) ∧
    (∀ k, 160 ≤ k → Memory.read (iterate State.dmaStep 648 start).ppu.oam k = Memory.read s.ppu.oam k)

/-- R51, R60, R460–R462: a line is 456 dots, LY moves once, at its end, and wraps from 153 to 0; dots 0–79 of a
visible line are mode 2, dot 80 begins mode 3, and modes 3 and 0 fill the rest; the next line begins in mode 2, or in
mode 1 at line 144, and lines 144–152 stay in mode 1. The order inside a dot is the spec's own decision D23. -/
def Obligations.LineTiming : Prop :=
  ∀ (color : Bool) (p : Ppu), p.lcdc.getLsbD 7 = true → p.dot = 0 →
    let next : Byte := if p.ly.toNat = 153 then 0#8 else p.ly + 1
    (∀ k, k < 456 → (iterate (ppuDot color) k p).dot = k ∧ (iterate (ppuDot color) k p).ly = p.ly) ∧
    (iterate (ppuDot color) 456 p).dot = 0 ∧
    (iterate (ppuDot color) 456 p).ly = next ∧
    (p.mode = .oamScan → (∀ k, k < 80 → (iterate (ppuDot color) k p).mode = .oamScan) ∧
      (iterate (ppuDot color) 80 p).mode = .drawing ∧
      ∀ k, 80 ≤ k → k < 456 → (iterate (ppuDot color) k p).mode = .drawing ∨ (iterate (ppuDot color) k p).mode = .hblank) ∧
    (p.mode = .vblank → 144 ≤ p.ly.toNat → ∀ k, k < 456 → (iterate (ppuDot color) k p).mode = .vblank) ∧
    (next.toNat < 144 → (iterate (ppuDot color) 456 p).mode = .oamScan) ∧
    (next.toNat = 144 → (iterate (ppuDot color) 456 p).mode = .vblank) ∧
    (p.mode = .vblank → 144 < next.toNat → (iterate (ppuDot color) 456 p).mode = .vblank)

/-- R421, R490, R491: a PPU step requests VBlank exactly when it ends line 143, and STAT exactly when the OR of the
selected conditions rises. It is the spec's own decision D28. -/
def Obligations.PpuRequests : Prop :=
  ∀ (color : Bool) (p : Ppu), p.lcdc.getLsbD 7 = true →
    let q := (p.step color).1
    let condition := (q.statSel.getLsbD 3 && decide (q.ly = q.lyc)) || (q.statSel.getLsbD 2 && decide (q.mode = .oamScan)) ||
      (q.statSel.getLsbD 1 && decide (q.mode = .vblank)) || (q.statSel.getLsbD 0 && decide (q.mode = .hblank))
    q.statLine = condition ∧
    (p.step color).2.getLsbD 0 = decide (p.dot = 455 ∧ p.ly = 143#8) ∧
    (p.step color).2.getLsbD 1 = (condition && !p.statLine) ∧
    (∀ k, 2 ≤ k → (p.step color).2.getLsbD k = false)

/-- R463, R464: the 80 dots of the OAM scan select, in OAM order, the first ten entries whose Y range covers the line.
The dots of the scan are the spec's own decision D24. -/
def Obligations.OamScanSelectsTen : Prop :=
  ∀ (color : Bool) (p : Ppu), p.lcdc.getLsbD 7 = true → p.ly.toNat < 144 → p.mode = .oamScan → p.dot = 0 →
    p.scanIndex = 0 → p.scanMicro = .readY → p.selected = [] →
    (iterate (ppuDot color) 80 p).selected = (((List.range 40).filter (covers p)).take 10).map (entry p)

/-- R54, R488, R489: which pixel is shown: the shade or colour of the background, or of an opaque object that priority
lets through. The priorities and the stored values are the spec's own decision D27. -/
def Obligations.PixelMixing : Prop :=
  ∀ (p : Ppu) (b : Pixel) (o : Option Pixel),
    let shadeOf (pal : Byte) (c : BitVec 2) : BitVec 16 := BitVec.ofNat 16 (pal.toNat / 4 ^ c.toNat % 4)
    let colourOf (ram : Memory) (k : BitVec 3) (c : BitVec 2) : BitVec 16 :=
      BitVec.ofNat 16 (((Memory.read ram (8 * k.toNat + 2 * c.toNat)).toNat +
        256 * (Memory.read ram (8 * k.toNat + 2 * c.toNat + 1)).toNat) % 0x8000)
    (∀ x : Pixel, o = some x → x.color ≠ 0#2 → p.lcdc.getLsbD 1 = true →
      (p.lcdc.getLsbD 0 = false ∨ x.bgPriority = false ∨ b.color = 0#2 →
        p.mixPixel false b o = shadeOf (if x.palette = 1#3 then p.obp1 else p.obp0) x.color) ∧
      (p.lcdc.getLsbD 0 = false ∨ b.color = 0#2 ∨ (b.bgPriority = false ∧ x.bgPriority = false) →
        p.mixPixel true b o = colourOf p.objPalRam x.palette x.color)) ∧
    ((o = none ∨ p.lcdc.getLsbD 1 = false ∨ ∃ x, o = some x ∧ (x.color = 0#2 ∨
        (x.bgPriority = true ∧ p.lcdc.getLsbD 0 = true ∧ b.color ≠ 0#2))) →
      p.mixPixel false b o = if p.lcdc.getLsbD 0 then shadeOf p.bgp b.color else 0#16) ∧
    ((o = none ∨ p.lcdc.getLsbD 1 = false ∨ ∃ x, o = some x ∧ (x.color = 0#2 ∨
        (p.lcdc.getLsbD 0 = true ∧ b.color ≠ 0#2 ∧ (b.bgPriority = true ∨ x.bgPriority = true)))) →
      p.mixPixel true b o = colourOf p.bgPalRam b.palette b.color)

/-! ### Construction -/

/-- R142, R150, R151, R530: what construction refuses, in the order of its checks, and that every other image gives a
machine. It rests on the spec's own decisions D37 and D38. -/
def Obligations.ConstructionRefusals : Prop :=
  ∀ (i : Image) (color : Bool) (b : Boot),
    let romCode := (i.byte 0x148).toNat
    let ramCode := (i.byte 0x149).toNat
    let type := (i.byte 0x147).toNat
    let romBanks := 2 ^ (romCode + 1)
    let typeOk := type ∈ [0x00, 0x01, 0x02, 0x03, 0x05, 0x06, 0x08, 0x09, 0x0F, 0x10, 0x11, 0x12, 0x13, 0x19, 0x1A, 0x1B,
      0x1C, 0x1D, 0x1E]
    let ramOk := ramCode ∈ [0x00, 0x02, 0x03, 0x04, 0x05]
    let small := type ∈ [0x00, 0x08, 0x09] → romBanks = 2 ∧ ramCode ∈ [0x00, 0x02]
    (i.length < 0x150 → construct i color b = .error .imageTooShort) ∧
    (0x150 ≤ i.length → 8 < romCode → construct i color b = .error .romSizeCode) ∧
    (0x150 ≤ i.length → romCode ≤ 8 → ¬ ramOk → construct i color b = .error .ramSizeCode) ∧
    (0x150 ≤ i.length → romCode ≤ 8 → ramOk → ¬ typeOk → construct i color b = .error .cartridgeType) ∧
    (0x150 ≤ i.length → romCode ≤ 8 → ramOk → typeOk → i.length ≠ romBanks * 0x4000 →
      construct i color b = .error .imageLength) ∧
    (romCode ≤ 8 → ramOk → typeOk → i.length = romBanks * 0x4000 → ¬ small → construct i color b = .error .noMbcSize) ∧
    (romCode ≤ 8 → ramOk → typeOk → i.length = romBanks * 0x4000 → small → ∃ s, construct i color b = .ok s ∧
      s.cart.romBanks = romBanks ∧ s.cart.rom = i.bytes)

/-- R9, R70, R474, R530–R532: the power-on values the spec gives, for every image that gives a machine and for the
model's reset state; and a constructed machine holds each launch parameter it was given. They rest on the spec's own
decisions D13, D14, D16, D35, D55 and D56; that the environment is a draw number and a list of events is the model's
choice (log entries 8 and 9). -/
def Obligations.PowerOnValues : Prop :=
  (∀ s : State, s = State.reset ∨ (∃ i color b, construct i color b = .ok s) →
    s.regs.pc = 0x0100#16 ∧ s.regs.sp = 0xFFFE#16 ∧ s.ie = 0x00#8 ∧ s.ime = false ∧ s.pendingEI = .none ∧
    s.runState = .running ∧ s.cyclesRemaining = 0 ∧ s.svbk = 0 ∧
    s.ppu.lcdc = 0x91#8 ∧ s.ppu.statSel = 0 ∧ s.ppu.scy = 0 ∧ s.ppu.scx = 0 ∧ s.ppu.ly = 0 ∧ s.ppu.lyc = 0 ∧
    s.ppu.wy = 0 ∧ s.ppu.wx = 0 ∧ s.ppu.bgp = 0xFC#8 ∧ s.ppu.obp0 = 0xFF#8 ∧ s.ppu.obp1 = 0xFF#8 ∧
    s.ppu.vbk = 0 ∧ s.ppu.bcps = 0 ∧ s.ppu.ocps = 0 ∧ s.ppu.mode = .oamScan ∧ s.ppu.dot = 0 ∧ s.ppu.lx = 0 ∧
    s.ppu.scanIndex = 0 ∧ s.ppu.scanMicro = .readY ∧ s.ppu.selected = [] ∧ s.ppu.bgFifo = [] ∧ s.ppu.objFifo = [] ∧
    s.ppu.bgf.phase = .getTile ∧ s.ppu.bgf.micro = .computeAddress ∧ s.ppu.bgf.fetchX = 0 ∧
    s.ppu.bgf.windowMode = false ∧ s.ppu.bgf.warmup = true ∧ s.ppu.objf.active = false ∧
    s.ppu.discard = 0 ∧ s.ppu.wyTriggered = true ∧ s.ppu.windowLine = 0 ∧ s.ppu.windowDrawnThisLine = false ∧
    s.ppu.statLine = false ∧ s.ppu.lcdOnPrev = true ∧ s.ppu.framebuffer = [] ∧
    s.dma.active = false ∧ s.dma.delay = 0 ∧ s.dma.count = 0 ∧ s.dma.sub = 0 ∧ s.dma.src = 0 ∧ s.dma.reg = 0xFF#8 ∧
    (∀ r, s.cart.mbc = .mbc1 r → r = { ramEnable := false, bank1 := 1, bank2 := 0, mode := 0 }) ∧
    (∀ r, s.cart.mbc = .mbc1m r → r = { ramEnable := false, bank1 := 1, bank2 := 0, mode := 0 }) ∧
    (∀ r, s.cart.mbc = .mbc2 r → r = { ramEnable := false, romBank := 1 }) ∧
    (∀ r, s.cart.mbc = .mbc3 r → r.ramEnable = false ∧ r.romBank = 1 ∧ r.select = 0 ∧ r.latchPrev = 0xFF#8 ∧
      r.latched = r.live) ∧
    (∀ r, s.cart.mbc = .mbc5 r → r.ramEnable = false ∧ r.romBank = 1 ∧ r.ramBank = 0 ∧ r.rumble = false)) ∧
  (∀ (i : Image) (color : Bool) (b : Boot) (s : State), construct i color b = .ok s →
    s.regs.af = b.af &&& 0xFFF0#16 ∧ s.regs.bc = b.bc ∧ s.regs.de = b.de ∧ s.regs.hl = b.hl ∧ s.ifr = b.ifr ∧
    s.colorMode = color ∧ s.wram = b.wram ∧ s.hram = b.hram ∧ s.ppu.vram = b.vram ∧ s.ppu.oam = b.oam ∧
    s.ppu.bgPalRam = b.bgPalRam ∧ s.ppu.objPalRam = b.objPalRam ∧ s.cart.rom = i.bytes ∧ s.cart.ram = b.cartRam ∧
    (∀ r, s.cart.mbc = .mbc3 r → r.live = b.rtc ∧ r.latched = b.rtc) ∧
    s.envDraws = b.env.draws ∧ s.external = b.env.events)
end

