-- ==== Sys2Proof/Laws/Bits.lean ====
section
/-! SUPPORT. The byte views of a 16-bit cell (R30): what each view reads after each write. -/

namespace Sys2Proof

theorem hiByte_getLsbD (w : Word) (i : Nat) : (hiByte w).getLsbD i = (decide (i < 8) && w.getLsbD (8 + i)) := by
  simp [hiByte, BitVec.getLsbD_extractLsb']

theorem loByte_getLsbD (w : Word) (i : Nat) : (loByte w).getLsbD i = (decide (i < 8) && w.getLsbD i) := by
  simp [loByte, BitVec.getLsbD_extractLsb']

theorem mkWord_getLsbD (h l : Byte) (i : Nat) :
    (mkWord h l).getLsbD i = if i < 8 then l.getLsbD i else h.getLsbD (i - 8) := by
  unfold mkWord; exact BitVec.getLsbD_append

@[simp] theorem hiByte_mkWord (h l : Byte) : hiByte (mkWord h l) = h := by
  apply BitVec.eq_of_getLsbD_eq
  intro i hi
  rw [hiByte_getLsbD, mkWord_getLsbD]
  simp [hi]

@[simp] theorem loByte_mkWord (h l : Byte) : loByte (mkWord h l) = l := by
  apply BitVec.eq_of_getLsbD_eq
  intro i hi
  rw [loByte_getLsbD, mkWord_getLsbD]
  simp [hi]

@[simp] theorem mkWord_hi_lo (w : Word) : mkWord (hiByte w) (loByte w) = w := by
  apply BitVec.eq_of_getLsbD_eq
  intro i hi
  rw [mkWord_getLsbD, hiByte_getLsbD, loByte_getLsbD]
  by_cases h : i < 8
  · simp [h]
  · have h1 : i - 8 < 8 := by omega
    have h2 : 8 + (i - 8) = i := by omega
    simp [h, h1, h2]

/-- Two words with the same byte views are the same word. -/
theorem word_ext {v w : Word} (hh : hiByte v = hiByte w) (hl : loByte v = loByte w) : v = w := by
  rw [← mkWord_hi_lo v, ← mkWord_hi_lo w, hh, hl]

@[simp] theorem hiByte_setHi (w : Word) (v : Byte) : hiByte (setHi w v) = v := hiByte_mkWord _ _
@[simp] theorem loByte_setHi (w : Word) (v : Byte) : loByte (setHi w v) = loByte w := loByte_mkWord _ _
@[simp] theorem hiByte_setLo (w : Word) (v : Byte) : hiByte (setLo w v) = hiByte w := hiByte_mkWord _ _
@[simp] theorem loByte_setLo (w : Word) (v : Byte) : loByte (setLo w v) = v := loByte_mkWord _ _

/-- The high byte of a masked word is the masked high byte. -/
theorem hiByte_and (v w : Word) : hiByte (v &&& w) = hiByte v &&& hiByte w := by
  apply BitVec.eq_of_getLsbD_eq
  intro i hi
  rw [BitVec.getLsbD_and, hiByte_getLsbD, hiByte_getLsbD, hiByte_getLsbD, BitVec.getLsbD_and]
  simp [hi]

/-- The low byte of a masked word is the masked low byte. -/
theorem loByte_and (v w : Word) : loByte (v &&& w) = loByte v &&& loByte w := by
  apply BitVec.eq_of_getLsbD_eq
  intro i hi
  rw [BitVec.getLsbD_and, loByte_getLsbD, loByte_getLsbD, loByte_getLsbD, BitVec.getLsbD_and]
  simp [hi]

/-- A property of all 3-bit codes is checked code by code. -/
theorem forall_code3 {P : BitVec 3 → Prop}
    (h : P 0 ∧ P 1 ∧ P 2 ∧ P 3 ∧ P 4 ∧ P 5 ∧ P 6 ∧ P 7) (y : BitVec 3) : P y := by
  obtain ⟨h0, h1, h2, h3, h4, h5, h6, h7⟩ := h
  have : y = 0 ∨ y = 1 ∨ y = 2 ∨ y = 3 ∨ y = 4 ∨ y = 5 ∨ y = 6 ∨ y = 7 := by revert y; decide
  rcases this with h | h | h | h | h | h | h | h <;> simpa [h]

/-- A property of all 2-bit codes is checked code by code. -/
theorem forall_code2 {P : BitVec 2 → Prop} (h : P 0 ∧ P 1 ∧ P 2 ∧ P 3) (y : BitVec 2) : P y := by
  obtain ⟨h0, h1, h2, h3⟩ := h
  have : y = 0 ∨ y = 1 ∨ y = 2 ∨ y = 3 := by revert y; decide
  rcases this with h | h | h | h <;> simpa [h]

end Sys2Proof
end

