-- ==== Sys2Proof/Laws/Mem.lean ====
section
/-! SUPPORT. The laws of a sparse store: read after write, other cells unchanged, and the canonical form kept. -/

namespace Sys2Proof.Machine

/-- Below the least listed key a canonical store reads as unlisted. -/
theorem Cells.read_of_lt {w : Nat} {m : Cells w} {lo k : Nat} (h : Cells.wfFrom lo m = true) (hk : k < lo) :
    Cells.read m k = Config.unlisted w := by
  induction m generalizing lo with
  | nil => rfl
  | cons p rest ih =>
    obtain ⟨a, v⟩ := p
    simp only [Cells.wfFrom, Bool.and_eq_true, decide_eq_true_eq] at h
    have hne : a ≠ k := by omega
    simp only [Cells.read, hne, if_false]
    exact ih h.2 (by omega)

/-- The canonical form from a key on gives the one from any lower key on. -/
theorem Cells.wfFrom_mono {w : Nat} {m : Cells w} {lo lo' : Nat} (h : Cells.wfFrom lo m = true) (hl : lo' ≤ lo) :
    Cells.wfFrom lo' m = true := by
  cases m with
  | nil => rfl
  | cons p rest =>
    simp only [Cells.wfFrom, Bool.and_eq_true, decide_eq_true_eq] at h ⊢
    exact ⟨⟨by omega, h.1.2⟩, h.2⟩

/-- The written cell reads back, and every other cell reads as before. -/
theorem Cells.read_write_from {w : Nat} {m : Cells w} {lo : Nat} (h : Cells.wfFrom lo m = true) (k : Nat)
    (v : BitVec w) (j : Nat) : Cells.read (Cells.write m k v) j = if j = k then v else Cells.read m j := by
  induction m generalizing lo with
  | nil =>
    unfold Cells.write
    by_cases hv : v = Config.unlisted w
    · simp [hv, Cells.read]
    · by_cases hj : j = k
      · simp [hv, Cells.read, hj]
      · have : ¬ k = j := fun h => hj h.symm
        simp [hv, Cells.read, hj, this]
  | cons p rest ih =>
    obtain ⟨a, x⟩ := p
    simp only [Cells.wfFrom, Bool.and_eq_true, decide_eq_true_eq] at h
    have hlow : ∀ i, i < a → Cells.read ((a, x) :: rest) i = Config.unlisted w := fun i hi =>
      Cells.read_of_lt (lo := a) (by simp [Cells.wfFrom, h.1.2, h.2]) hi
    unfold Cells.write
    by_cases hk : k < a
    · simp only [hk, if_true]
      by_cases hv : v = Config.unlisted w
      · by_cases hj : j = k
        · simp only [hv, hj, if_true]; exact hlow k hk
        · simp [hv, hj]
      · by_cases hj : j = k
        · subst hj; simp [hv, Cells.read]
        · have : ¬ k = j := fun h => hj h.symm
          simp only [hv, if_false, hj]
          rw [Cells.read]; simp [this]
    · simp only [hk, if_false]
      by_cases hka : k = a
      · simp only [hka, if_true]
        by_cases hv : v = Config.unlisted w
        · simp only [hv, if_true]
          by_cases hj : j = a
          · simp only [hj, if_true]; exact Cells.read_of_lt h.2 (by omega)
          · have : ¬ a = j := fun h => hj h.symm
            simp [hj, Cells.read, this]
        · by_cases hj : j = a
          · subst hj; simp [hv, Cells.read]
          · have : ¬ a = j := fun h => hj h.symm
            simp [hv, hj, Cells.read, this]
      · simp only [hka, if_false]
        by_cases hj : a = j
        · subst hj
          have : ¬ a = k := fun h => hka h.symm
          simp [Cells.read, this]
        · simp only [Cells.read, hj, if_false]; exact ih h.2

/-- A write keeps the canonical form. -/
theorem Cells.wfFrom_write {w : Nat} {m : Cells w} {lo : Nat} (h : Cells.wfFrom lo m = true) {k : Nat} (hk : lo ≤ k)
    (v : BitVec w) : Cells.wfFrom lo (Cells.write m k v) = true := by
  induction m generalizing lo with
  | nil =>
    unfold Cells.write
    by_cases hv : v = Config.unlisted w <;> simp [hv, Cells.wfFrom, hk]
  | cons p rest ih =>
    obtain ⟨a, x⟩ := p
    have h' := h
    simp only [Cells.wfFrom, Bool.and_eq_true, decide_eq_true_eq] at h'
    unfold Cells.write
    by_cases hka : k < a
    · simp only [hka, if_true]
      by_cases hv : v = Config.unlisted w
      · simpa [hv] using h
      · simp only [hv, if_false, Cells.wfFrom, Bool.and_eq_true, decide_eq_true_eq]
        exact ⟨⟨hk, hv⟩, ⟨⟨by omega, h'.1.2⟩, h'.2⟩⟩
    · simp only [hka, if_false]
      by_cases hke : k = a
      · simp only [hke, if_true]
        by_cases hv : v = Config.unlisted w
        · simp only [hv, if_true]; exact Cells.wfFrom_mono h'.2 (by omega)
        · simp only [hv, if_false, Cells.wfFrom, Bool.and_eq_true, decide_eq_true_eq]
          exact ⟨⟨h'.1.1, hv⟩, h'.2⟩
      · simp only [hke, if_false, Cells.wfFrom, Bool.and_eq_true, decide_eq_true_eq]
        exact ⟨h'.1, ih h'.2 (by omega)⟩

/-- A written store is canonical. -/
theorem Cells.wf_write {w : Nat} {m : Cells w} (h : Cells.wf m = true) (k : Nat) (v : BitVec w) :
    Cells.wf (Cells.write m k v) = true := Cells.wfFrom_write h (Nat.zero_le k) v

/-- What a cell reads after a write. -/
theorem Cells.read_write {w : Nat} {m : Cells w} (h : Cells.wf m = true) (k : Nat) (v : BitVec w) (j : Nat) :
    Cells.read (Cells.write m k v) j = if j = k then v else Cells.read m j := Cells.read_write_from h k v j

/-- A written memory is canonical. -/
theorem Memory.wf_write {m : Memory} (h : Memory.wf m = true) (k : Nat) (v : Byte) :
    Memory.wf (Memory.write m k v) = true := Cells.wf_write h k v

/-- What a byte reads after a write. -/
theorem Memory.read_write {m : Memory} (h : Memory.wf m = true) (k : Nat) (v : Byte) (j : Nat) :
    Memory.read (Memory.write m k v) j = if j = k then v else Memory.read m j := Cells.read_write h k v j

/-- A canonical store is known from what its cells read. -/
theorem Cells.ext_from {w : Nat} {m n : Cells w} {lo : Nat} (hm : Cells.wfFrom lo m = true)
    (hn : Cells.wfFrom lo n = true) (h : ∀ k, Cells.read m k = Cells.read n k) : m = n := by
  induction m generalizing n lo with
  | nil =>
    cases n with
    | nil => rfl
    | cons q rest =>
      obtain ⟨b, y⟩ := q
      simp only [Cells.wfFrom, Bool.and_eq_true, decide_eq_true_eq] at hn
      exact absurd (h b).symm (by simpa [Cells.read] using hn.1.2)
  | cons p rest ih =>
    obtain ⟨a, x⟩ := p
    simp only [Cells.wfFrom, Bool.and_eq_true, decide_eq_true_eq] at hm
    cases n with
    | nil => exact absurd (h a) (by simpa [Cells.read] using hm.1.2)
    | cons q rest' =>
      obtain ⟨b, y⟩ := q
      simp only [Cells.wfFrom, Bool.and_eq_true, decide_eq_true_eq] at hn
      have hab : a = b := by
        rcases Nat.lt_trichotomy a b with hlt | heq | hgt
        · exfalso
          have h1 := h a
          rw [Cells.read_of_lt (m := (b, y) :: rest') (lo := b) (by simp [Cells.wfFrom, hn.1.2, hn.2]) hlt] at h1
          exact hm.1.2 (by simpa [Cells.read] using h1)
        · exact heq
        · exfalso
          have h1 := h b
          rw [Cells.read_of_lt (m := (a, x) :: rest) (lo := a) (by simp [Cells.wfFrom, hm.1.2, hm.2]) hgt] at h1
          exact hn.1.2 (by simpa [Cells.read] using h1.symm)
      subst hab
      have hxy : x = y := by simpa [Cells.read] using h a
      subst hxy
      have htail : rest = rest' := ih hm.2 hn.2 fun k => by
        by_cases hk : a = k
        · subst hk
          rw [Cells.read_of_lt hm.2 (by omega), Cells.read_of_lt hn.2 (by omega)]
        · simpa [Cells.read, hk] using h k
      rw [htail]

/-- A canonical memory is known from what its bytes read. -/
theorem Memory.ext {m n : Memory} (hm : Memory.wf m = true) (hn : Memory.wf n = true)
    (h : ∀ k, Memory.read m k = Memory.read n k) : m = n := Cells.ext_from hm hn h

/-! ### Iteration -/

@[simp] theorem iterate_zero {α : Type} (f : α → α) (x : α) : iterate f 0 x = x := rfl

theorem iterate_succ {α : Type} (f : α → α) (n : Nat) (x : α) : iterate f (n + 1) x = iterate f n (f x) := rfl

theorem iterate_add {α : Type} (f : α → α) (m n : Nat) (x : α) : iterate f (m + n) x = iterate f n (iterate f m x) := by
  induction m generalizing x with
  | zero => simp
  | succ m ih => rw [Nat.succ_add]; exact ih (f x)

/-- What `f` keeps, its iteration keeps. -/
theorem iterate_inv {α : Type} {P : α → Prop} {f : α → α} (h : ∀ x, P x → P (f x)) (n : Nat) {x : α} (hx : P x) :
    P (iterate f n x) := by
  induction n generalizing x with
  | zero => exact hx
  | succ n ih => exact ih (h x hx)

end Sys2Proof.Machine
end

