-- ==== Sys2Proof/Laws/Bus.lean ====
section
/-! SUPPORT. What the bus can do: where it stops, what a write leaves of the CPU and of the cartridge, and that every
write keeps every memory canonical. -/

namespace Sys2Proof.Machine

/-! ### Where the bus stops (R118) -/

/-- A read has no byte exactly in the hole of the map. -/
theorem State.busRead_eq_none (s : State) (a : Word) : s.busRead a = none ↔ regionOf a = .hole := by
  unfold State.busRead
  cases regionOf a <;> simp

/-- A write has no outcome exactly in the hole of the map. -/
theorem State.busWrite_eq_none (s : State) (a : Word) (v : Byte) : s.busWrite a v = none ↔ regionOf a = .hole := by
  unfold State.busWrite
  cases regionOf a <;> simp

/-- Outside the hole a read has a byte. -/
theorem State.exists_busRead (s : State) {a : Word} (h : regionOf a ≠ .hole) : ∃ v, s.busRead a = some v := by
  rcases hb : s.busRead a with _ | v
  · exact absurd ((s.busRead_eq_none a).1 hb) h
  · exact ⟨v, rfl⟩

/-- Outside the hole a write has an outcome. -/
theorem State.exists_busWrite (s : State) {a : Word} (v : Byte) (h : regionOf a ≠ .hole) :
    ∃ t, s.busWrite a v = some t := by
  rcases hb : s.busWrite a v with _ | t
  · exact absurd ((s.busWrite_eq_none a v).1 hb) h
  · exact ⟨t, rfl⟩

/-- The hole is 0xFF71–0xFF7F. -/
theorem regionOf_hole (a : Word) : regionOf a = .hole ↔ 0xFF71 ≤ a.toNat ∧ a.toNat ≤ 0xFF7F := by
  unfold regionOf
  simp only [ite_eq_iff, reduceCtorEq, and_false, or_false, false_or, and_true, not_le]
  omega

/-- An echo address lies 0x2000 above the work RAM it mirrors (R110). -/
theorem regionOf_echo {a : Word} (h : regionOf a = .echo) : 0xE000 ≤ a.toNat ∧ a.toNat ≤ 0xFDFF := by
  unfold regionOf at h
  simp only [ite_eq_iff, reduceCtorEq, and_false, or_false, false_or, and_true, not_le] at h
  omega

/-- The numeric value of the mirrored address. -/
theorem echoOf_toNat {a : Word} (h : regionOf a = .echo) : (echoOf a).toNat = a.toNat - 0x2000 := by
  have := regionOf_echo h
  unfold echoOf
  bv_omega

/-! ### What a write leaves -/

/-- What an I/O write leaves of the CPU. -/
theorem State.ioWrite_cpu (s : State) (a : Word) (v : Byte) :
    (s.ioWrite a v).regs = s.regs ∧ (s.ioWrite a v).ime = s.ime ∧ (s.ioWrite a v).pendingEI = s.pendingEI ∧
      (s.ioWrite a v).runState = s.runState ∧ (s.ioWrite a v).cyclesRemaining = s.cyclesRemaining ∧
      (s.ioWrite a v).colorMode = s.colorMode ∧ (s.ioWrite a v).envDraws = s.envDraws ∧
      (s.ioWrite a v).external = s.external ∧ (s.ioWrite a v).ie = s.ie ∧ (s.ioWrite a v).cart = s.cart ∧
      (s.ioWrite a v).wram = s.wram ∧ (s.ioWrite a v).hram = s.hram := by
  unfold State.ioWrite
  split
  · simp
  split
  · simp
  unfold State.videoWrite
  split <;> (try split) <;> (try simp)
  unfold State.colorWrite
  split <;> simp

/-- What a bus write leaves of the CPU: every register and every control field but IE and IF. -/
theorem State.busWrite_cpu {s t : State} {a : Word} {v : Byte} (h : s.busWrite a v = some t) :
    t.regs = s.regs ∧ t.ime = s.ime ∧ t.pendingEI = s.pendingEI ∧ t.runState = s.runState ∧
      t.cyclesRemaining = s.cyclesRemaining ∧ t.colorMode = s.colorMode ∧ t.envDraws = s.envDraws ∧
      t.external = s.external := by
  have hio := s.ioWrite_cpu a v
  unfold State.busWrite at h
  cases hr : regionOf a <;> simp only [hr, Option.some.injEq, reduceCtorEq] at h <;> subst h <;> (try split) <;>
    (try exact ⟨rfl, rfl, rfl, rfl, rfl, rfl, rfl, rfl⟩)
  exact ⟨hio.1, hio.2.1, hio.2.2.1, hio.2.2.2.1, hio.2.2.2.2.1, hio.2.2.2.2.2.1, hio.2.2.2.2.2.2.1,
    hio.2.2.2.2.2.2.2.1⟩

/-- A cartridge write never changes ROM or the bank counts (R68, R106). -/
theorem Cart.write_fixed (c : Cart) (a : Word) (v : Byte) :
    (c.write a v).rom = c.rom ∧ (c.write a v).romBanks = c.romBanks ∧ (c.write a v).ramBanks = c.ramBanks := by
  unfold Cart.write
  split
  · unfold Cart.writeControl
    split <;> simp
  · unfold Cart.writeRam
    dsimp only
    split <;> (try unfold Cart.ramWrite) <;> (try split) <;> (try split) <;> simp

/-- A bus write never changes ROM or the bank counts (R68, R106). -/
theorem State.busWrite_rom {s t : State} {a : Word} {v : Byte} (h : s.busWrite a v = some t) :
    t.cart.rom = s.cart.rom ∧ t.cart.romBanks = s.cart.romBanks ∧ t.cart.ramBanks = s.cart.ramBanks := by
  have hio := s.ioWrite_cpu a v
  have hc := s.cart.write_fixed a v
  unfold State.busWrite at h
  cases hr : regionOf a <;> simp only [hr, Option.some.injEq, reduceCtorEq] at h <;> subst h <;> (try split) <;>
    (try exact ⟨rfl, rfl, rfl⟩) <;> (try exact hc)
  rw [hio.2.2.2.2.2.2.2.2.2.1]
  exact ⟨rfl, rfl, rfl⟩

/-! ### The canonical form -/

/-- A cartridge write keeps cartridge RAM canonical. -/
theorem Cart.wf_write (c : Cart) (a : Word) (v : Byte) (h : Memory.wf c.ram = true) :
    Memory.wf (c.write a v).ram = true := by
  unfold Cart.write
  split
  · unfold Cart.writeControl
    split <;> simpa
  · unfold Cart.writeRam
    dsimp only
    split <;> (try unfold Cart.ramWrite) <;> (try split) <;> (try split) <;>
      first | exact h | exact Memory.wf_write h _ _

/-- A palette-port write keeps the PPU's memories canonical. -/
theorem Ppu.memoriesWf_paletteWrite (p : Ppu) (a : Word) (v : Byte) (h : p.memoriesWf = true) :
    (p.paletteWrite a v).memoriesWf = true := by
  unfold Ppu.memoriesWf at *
  simp only [Bool.and_eq_true] at *
  unfold Ppu.paletteWrite
  split
  · exact h
  · split <;> simp [h, Memory.wf_write]

/-- A write of LCDC keeps the PPU's memories. -/
theorem Ppu.memoriesWf_lcdcWrite (p : Ppu) (v : Byte) (h : p.memoriesWf = true) :
    (p.lcdcWrite v).memoriesWf = true := by
  unfold Ppu.lcdcWrite
  dsimp only
  split
  · exact h
  · split <;> exact h

theorem State.memoriesWf_iff (s : State) : s.memoriesWf = true ↔
    Memory.wf s.wram = true ∧ Memory.wf s.hram = true ∧ s.ppu.memoriesWf = true ∧ Memory.wf s.cart.rom = true ∧
      Memory.wf s.cart.ram = true := by
  simp only [State.memoriesWf, Ppu.memoriesWf, Bool.and_eq_true]
  tauto

/-- An I/O write keeps the PPU's memories canonical. -/
theorem State.ioWrite_ppuWf (s : State) (a : Word) (v : Byte) (h : s.ppu.memoriesWf = true) :
    (s.ioWrite a v).ppu.memoriesWf = true := by
  unfold State.ioWrite
  split
  · exact h
  split
  · exact h
  unfold State.videoWrite
  split <;> (try split) <;> (try exact h)
  · exact Ppu.memoriesWf_lcdcWrite _ _ h
  · unfold State.colorWrite
    split <;> (try exact h)
    exact Ppu.memoriesWf_paletteWrite _ _ _ h

/-- A bus write keeps every memory canonical. -/
theorem State.memoriesWf_busWrite {s t : State} {a : Word} {v : Byte} (h : s.busWrite a v = some t)
    (hs : s.memoriesWf = true) : t.memoriesWf = true := by
  rw [State.memoriesWf_iff] at hs ⊢
  obtain ⟨hw, hh, hp, hrom, hram⟩ := hs
  have hp' := hp
  simp only [Ppu.memoriesWf, Bool.and_eq_true] at hp'
  have hio := s.ioWrite_cpu a v
  have hiop := s.ioWrite_ppuWf a v hp
  have hc := s.cart.write_fixed a v
  have hcr := s.cart.wf_write a v hram
  unfold State.busWrite at h
  cases hr : regionOf a <;> simp only [hr, Option.some.injEq, reduceCtorEq] at h <;> subst h
  case io =>
    rw [hio.2.2.2.2.2.2.2.2.2.1, hio.2.2.2.2.2.2.2.2.2.2.1, hio.2.2.2.2.2.2.2.2.2.2.2]
    exact ⟨hw, hh, hiop, hrom, hram⟩
  all_goals
    (try split) <;> simp [Ppu.memoriesWf, hw, hh, hp', hrom, hram, hc, hcr, Memory.wf_write]

/-- Reset's memories are canonical. -/
theorem State.memoriesWf_reset : State.reset.memoriesWf = true := by decide

end Sys2Proof.Machine
end

