-- ==== Sys2Proof/Laws/State.lean ====
section
/-! SUPPORT. One lemma per field and update: what an update of State leaves of each field. -/

namespace Sys2Proof.Machine

/-! ### `setR8` -/

@[simp] theorem State.setR8_regs (s : State) (r : Reg8) (v : Byte) : (s.setR8 r v).regs = s.regs.setR8 r v := rfl
@[simp] theorem State.setR8_ie (s : State) (r : Reg8) (v : Byte) : (s.setR8 r v).ie = s.ie := rfl
@[simp] theorem State.setR8_ifr (s : State) (r : Reg8) (v : Byte) : (s.setR8 r v).ifr = s.ifr := rfl
@[simp] theorem State.setR8_ime (s : State) (r : Reg8) (v : Byte) : (s.setR8 r v).ime = s.ime := rfl
@[simp] theorem State.setR8_pendingEI (s : State) (r : Reg8) (v : Byte) : (s.setR8 r v).pendingEI = s.pendingEI := rfl
@[simp] theorem State.setR8_runState (s : State) (r : Reg8) (v : Byte) : (s.setR8 r v).runState = s.runState := rfl
@[simp] theorem State.setR8_cyclesRemaining (s : State) (r : Reg8) (v : Byte) : (s.setR8 r v).cyclesRemaining = s.cyclesRemaining := rfl
@[simp] theorem State.setR8_colorMode (s : State) (r : Reg8) (v : Byte) : (s.setR8 r v).colorMode = s.colorMode := rfl
@[simp] theorem State.setR8_wram (s : State) (r : Reg8) (v : Byte) : (s.setR8 r v).wram = s.wram := rfl
@[simp] theorem State.setR8_hram (s : State) (r : Reg8) (v : Byte) : (s.setR8 r v).hram = s.hram := rfl
@[simp] theorem State.setR8_svbk (s : State) (r : Reg8) (v : Byte) : (s.setR8 r v).svbk = s.svbk := rfl
@[simp] theorem State.setR8_ppu (s : State) (r : Reg8) (v : Byte) : (s.setR8 r v).ppu = s.ppu := rfl
@[simp] theorem State.setR8_dma (s : State) (r : Reg8) (v : Byte) : (s.setR8 r v).dma = s.dma := rfl
@[simp] theorem State.setR8_cart (s : State) (r : Reg8) (v : Byte) : (s.setR8 r v).cart = s.cart := rfl
@[simp] theorem State.setR8_envDraws (s : State) (r : Reg8) (v : Byte) : (s.setR8 r v).envDraws = s.envDraws := rfl
@[simp] theorem State.setR8_envWrites (s : State) (r : Reg8) (v : Byte) : (s.setR8 r v).envWrites = s.envWrites := rfl
@[simp] theorem State.setR8_external (s : State) (r : Reg8) (v : Byte) : (s.setR8 r v).external = s.external := rfl

/-! ### `setR16` -/

@[simp] theorem State.setR16_regs (s : State) (r : Reg16) (v : Word) : (s.setR16 r v).regs = s.regs.setR16 r v := rfl
@[simp] theorem State.setR16_ie (s : State) (r : Reg16) (v : Word) : (s.setR16 r v).ie = s.ie := rfl
@[simp] theorem State.setR16_ifr (s : State) (r : Reg16) (v : Word) : (s.setR16 r v).ifr = s.ifr := rfl
@[simp] theorem State.setR16_ime (s : State) (r : Reg16) (v : Word) : (s.setR16 r v).ime = s.ime := rfl
@[simp] theorem State.setR16_pendingEI (s : State) (r : Reg16) (v : Word) : (s.setR16 r v).pendingEI = s.pendingEI := rfl
@[simp] theorem State.setR16_runState (s : State) (r : Reg16) (v : Word) : (s.setR16 r v).runState = s.runState := rfl
@[simp] theorem State.setR16_cyclesRemaining (s : State) (r : Reg16) (v : Word) : (s.setR16 r v).cyclesRemaining = s.cyclesRemaining := rfl
@[simp] theorem State.setR16_colorMode (s : State) (r : Reg16) (v : Word) : (s.setR16 r v).colorMode = s.colorMode := rfl
@[simp] theorem State.setR16_wram (s : State) (r : Reg16) (v : Word) : (s.setR16 r v).wram = s.wram := rfl
@[simp] theorem State.setR16_hram (s : State) (r : Reg16) (v : Word) : (s.setR16 r v).hram = s.hram := rfl
@[simp] theorem State.setR16_svbk (s : State) (r : Reg16) (v : Word) : (s.setR16 r v).svbk = s.svbk := rfl
@[simp] theorem State.setR16_ppu (s : State) (r : Reg16) (v : Word) : (s.setR16 r v).ppu = s.ppu := rfl
@[simp] theorem State.setR16_dma (s : State) (r : Reg16) (v : Word) : (s.setR16 r v).dma = s.dma := rfl
@[simp] theorem State.setR16_cart (s : State) (r : Reg16) (v : Word) : (s.setR16 r v).cart = s.cart := rfl
@[simp] theorem State.setR16_envDraws (s : State) (r : Reg16) (v : Word) : (s.setR16 r v).envDraws = s.envDraws := rfl
@[simp] theorem State.setR16_envWrites (s : State) (r : Reg16) (v : Word) : (s.setR16 r v).envWrites = s.envWrites := rfl
@[simp] theorem State.setR16_external (s : State) (r : Reg16) (v : Word) : (s.setR16 r v).external = s.external := rfl

/-! ### `setFlags` -/

@[simp] theorem State.setFlags_regs (s : State) (f : Flags) : (s.setFlags f).regs = { s.regs with af := setLo s.regs.af f.toByte } := rfl
@[simp] theorem State.setFlags_ie (s : State) (f : Flags) : (s.setFlags f).ie = s.ie := rfl
@[simp] theorem State.setFlags_ifr (s : State) (f : Flags) : (s.setFlags f).ifr = s.ifr := rfl
@[simp] theorem State.setFlags_ime (s : State) (f : Flags) : (s.setFlags f).ime = s.ime := rfl
@[simp] theorem State.setFlags_pendingEI (s : State) (f : Flags) : (s.setFlags f).pendingEI = s.pendingEI := rfl
@[simp] theorem State.setFlags_runState (s : State) (f : Flags) : (s.setFlags f).runState = s.runState := rfl
@[simp] theorem State.setFlags_cyclesRemaining (s : State) (f : Flags) : (s.setFlags f).cyclesRemaining = s.cyclesRemaining := rfl
@[simp] theorem State.setFlags_colorMode (s : State) (f : Flags) : (s.setFlags f).colorMode = s.colorMode := rfl
@[simp] theorem State.setFlags_wram (s : State) (f : Flags) : (s.setFlags f).wram = s.wram := rfl
@[simp] theorem State.setFlags_hram (s : State) (f : Flags) : (s.setFlags f).hram = s.hram := rfl
@[simp] theorem State.setFlags_svbk (s : State) (f : Flags) : (s.setFlags f).svbk = s.svbk := rfl
@[simp] theorem State.setFlags_ppu (s : State) (f : Flags) : (s.setFlags f).ppu = s.ppu := rfl
@[simp] theorem State.setFlags_dma (s : State) (f : Flags) : (s.setFlags f).dma = s.dma := rfl
@[simp] theorem State.setFlags_cart (s : State) (f : Flags) : (s.setFlags f).cart = s.cart := rfl
@[simp] theorem State.setFlags_envDraws (s : State) (f : Flags) : (s.setFlags f).envDraws = s.envDraws := rfl
@[simp] theorem State.setFlags_envWrites (s : State) (f : Flags) : (s.setFlags f).envWrites = s.envWrites := rfl
@[simp] theorem State.setFlags_external (s : State) (f : Flags) : (s.setFlags f).external = s.external := rfl

/-! ### `setPc` -/

@[simp] theorem State.setPc_regs (s : State) (a : Word) : (s.setPc a).regs = { s.regs with pc := a } := rfl
@[simp] theorem State.setPc_ie (s : State) (a : Word) : (s.setPc a).ie = s.ie := rfl
@[simp] theorem State.setPc_ifr (s : State) (a : Word) : (s.setPc a).ifr = s.ifr := rfl
@[simp] theorem State.setPc_ime (s : State) (a : Word) : (s.setPc a).ime = s.ime := rfl
@[simp] theorem State.setPc_pendingEI (s : State) (a : Word) : (s.setPc a).pendingEI = s.pendingEI := rfl
@[simp] theorem State.setPc_runState (s : State) (a : Word) : (s.setPc a).runState = s.runState := rfl
@[simp] theorem State.setPc_cyclesRemaining (s : State) (a : Word) : (s.setPc a).cyclesRemaining = s.cyclesRemaining := rfl
@[simp] theorem State.setPc_colorMode (s : State) (a : Word) : (s.setPc a).colorMode = s.colorMode := rfl
@[simp] theorem State.setPc_wram (s : State) (a : Word) : (s.setPc a).wram = s.wram := rfl
@[simp] theorem State.setPc_hram (s : State) (a : Word) : (s.setPc a).hram = s.hram := rfl
@[simp] theorem State.setPc_svbk (s : State) (a : Word) : (s.setPc a).svbk = s.svbk := rfl
@[simp] theorem State.setPc_ppu (s : State) (a : Word) : (s.setPc a).ppu = s.ppu := rfl
@[simp] theorem State.setPc_dma (s : State) (a : Word) : (s.setPc a).dma = s.dma := rfl
@[simp] theorem State.setPc_cart (s : State) (a : Word) : (s.setPc a).cart = s.cart := rfl
@[simp] theorem State.setPc_envDraws (s : State) (a : Word) : (s.setPc a).envDraws = s.envDraws := rfl
@[simp] theorem State.setPc_envWrites (s : State) (a : Word) : (s.setPc a).envWrites = s.envWrites := rfl
@[simp] theorem State.setPc_external (s : State) (a : Word) : (s.setPc a).external = s.external := rfl

/-! ### `charge` -/

@[simp] theorem State.charge_regs (s : State) (n : Nat) : (s.charge n).regs = s.regs := rfl
@[simp] theorem State.charge_ie (s : State) (n : Nat) : (s.charge n).ie = s.ie := rfl
@[simp] theorem State.charge_ifr (s : State) (n : Nat) : (s.charge n).ifr = s.ifr := rfl
@[simp] theorem State.charge_ime (s : State) (n : Nat) : (s.charge n).ime = s.ime := rfl
@[simp] theorem State.charge_pendingEI (s : State) (n : Nat) : (s.charge n).pendingEI = s.pendingEI := rfl
@[simp] theorem State.charge_runState (s : State) (n : Nat) : (s.charge n).runState = s.runState := rfl
@[simp] theorem State.charge_cyclesRemaining (s : State) (n : Nat) : (s.charge n).cyclesRemaining = s.cyclesRemaining + 4 * n := rfl
@[simp] theorem State.charge_colorMode (s : State) (n : Nat) : (s.charge n).colorMode = s.colorMode := rfl
@[simp] theorem State.charge_wram (s : State) (n : Nat) : (s.charge n).wram = s.wram := rfl
@[simp] theorem State.charge_hram (s : State) (n : Nat) : (s.charge n).hram = s.hram := rfl
@[simp] theorem State.charge_svbk (s : State) (n : Nat) : (s.charge n).svbk = s.svbk := rfl
@[simp] theorem State.charge_ppu (s : State) (n : Nat) : (s.charge n).ppu = s.ppu := rfl
@[simp] theorem State.charge_dma (s : State) (n : Nat) : (s.charge n).dma = s.dma := rfl
@[simp] theorem State.charge_cart (s : State) (n : Nat) : (s.charge n).cart = s.cart := rfl
@[simp] theorem State.charge_envDraws (s : State) (n : Nat) : (s.charge n).envDraws = s.envDraws := rfl
@[simp] theorem State.charge_envWrites (s : State) (n : Nat) : (s.charge n).envWrites = s.envWrites := rfl
@[simp] theorem State.charge_external (s : State) (n : Nat) : (s.charge n).external = s.external := rfl

/-! ### `raiseFault` -/

@[simp] theorem State.raiseFault_regs (s : State) (a : Word) : (s.raiseFault a).regs = s.regs := rfl
@[simp] theorem State.raiseFault_ie (s : State) (a : Word) : (s.raiseFault a).ie = s.ie := rfl
@[simp] theorem State.raiseFault_ifr (s : State) (a : Word) : (s.raiseFault a).ifr = s.ifr := rfl
@[simp] theorem State.raiseFault_ime (s : State) (a : Word) : (s.raiseFault a).ime = s.ime := rfl
@[simp] theorem State.raiseFault_pendingEI (s : State) (a : Word) : (s.raiseFault a).pendingEI = s.pendingEI := rfl
@[simp] theorem State.raiseFault_runState (s : State) (a : Word) : (s.raiseFault a).runState = .faulted .busOutOfRange a := rfl
@[simp] theorem State.raiseFault_cyclesRemaining (s : State) (a : Word) : (s.raiseFault a).cyclesRemaining = s.cyclesRemaining := rfl
@[simp] theorem State.raiseFault_colorMode (s : State) (a : Word) : (s.raiseFault a).colorMode = s.colorMode := rfl
@[simp] theorem State.raiseFault_wram (s : State) (a : Word) : (s.raiseFault a).wram = s.wram := rfl
@[simp] theorem State.raiseFault_hram (s : State) (a : Word) : (s.raiseFault a).hram = s.hram := rfl
@[simp] theorem State.raiseFault_svbk (s : State) (a : Word) : (s.raiseFault a).svbk = s.svbk := rfl
@[simp] theorem State.raiseFault_ppu (s : State) (a : Word) : (s.raiseFault a).ppu = s.ppu := rfl
@[simp] theorem State.raiseFault_dma (s : State) (a : Word) : (s.raiseFault a).dma = s.dma := rfl
@[simp] theorem State.raiseFault_cart (s : State) (a : Word) : (s.raiseFault a).cart = s.cart := rfl
@[simp] theorem State.raiseFault_envDraws (s : State) (a : Word) : (s.raiseFault a).envDraws = s.envDraws := rfl
@[simp] theorem State.raiseFault_envWrites (s : State) (a : Word) : (s.raiseFault a).envWrites = s.envWrites := rfl
@[simp] theorem State.raiseFault_external (s : State) (a : Word) : (s.raiseFault a).external = s.external := rfl

/-! ### `raiseLock` -/

@[simp] theorem State.raiseLock_regs (s : State) (op : Byte) : (s.raiseLock op).regs = s.regs := rfl
@[simp] theorem State.raiseLock_ie (s : State) (op : Byte) : (s.raiseLock op).ie = s.ie := rfl
@[simp] theorem State.raiseLock_ifr (s : State) (op : Byte) : (s.raiseLock op).ifr = s.ifr := rfl
@[simp] theorem State.raiseLock_ime (s : State) (op : Byte) : (s.raiseLock op).ime = s.ime := rfl
@[simp] theorem State.raiseLock_pendingEI (s : State) (op : Byte) : (s.raiseLock op).pendingEI = s.pendingEI := rfl
@[simp] theorem State.raiseLock_runState (s : State) (op : Byte) : (s.raiseLock op).runState = .locked op s.regs.pc := rfl
@[simp] theorem State.raiseLock_cyclesRemaining (s : State) (op : Byte) : (s.raiseLock op).cyclesRemaining = s.cyclesRemaining := rfl
@[simp] theorem State.raiseLock_colorMode (s : State) (op : Byte) : (s.raiseLock op).colorMode = s.colorMode := rfl
@[simp] theorem State.raiseLock_wram (s : State) (op : Byte) : (s.raiseLock op).wram = s.wram := rfl
@[simp] theorem State.raiseLock_hram (s : State) (op : Byte) : (s.raiseLock op).hram = s.hram := rfl
@[simp] theorem State.raiseLock_svbk (s : State) (op : Byte) : (s.raiseLock op).svbk = s.svbk := rfl
@[simp] theorem State.raiseLock_ppu (s : State) (op : Byte) : (s.raiseLock op).ppu = s.ppu := rfl
@[simp] theorem State.raiseLock_dma (s : State) (op : Byte) : (s.raiseLock op).dma = s.dma := rfl
@[simp] theorem State.raiseLock_cart (s : State) (op : Byte) : (s.raiseLock op).cart = s.cart := rfl
@[simp] theorem State.raiseLock_envDraws (s : State) (op : Byte) : (s.raiseLock op).envDraws = s.envDraws := rfl
@[simp] theorem State.raiseLock_envWrites (s : State) (op : Byte) : (s.raiseLock op).envWrites = s.envWrites := rfl
@[simp] theorem State.raiseLock_external (s : State) (op : Byte) : (s.raiseLock op).external = s.external := rfl

/-! ### `afterRead` -/

@[simp] theorem State.afterRead_regs (s : State) (a : Word) : (s.afterRead a).regs = s.regs := by
  unfold State.afterRead; split <;> rfl
@[simp] theorem State.afterRead_ie (s : State) (a : Word) : (s.afterRead a).ie = s.ie := by
  unfold State.afterRead; split <;> rfl
@[simp] theorem State.afterRead_ifr (s : State) (a : Word) : (s.afterRead a).ifr = s.ifr := by
  unfold State.afterRead; split <;> rfl
@[simp] theorem State.afterRead_ime (s : State) (a : Word) : (s.afterRead a).ime = s.ime := by
  unfold State.afterRead; split <;> rfl
@[simp] theorem State.afterRead_pendingEI (s : State) (a : Word) : (s.afterRead a).pendingEI = s.pendingEI := by
  unfold State.afterRead; split <;> rfl
@[simp] theorem State.afterRead_runState (s : State) (a : Word) : (s.afterRead a).runState = s.runState := by
  unfold State.afterRead; split <;> rfl
@[simp] theorem State.afterRead_cyclesRemaining (s : State) (a : Word) : (s.afterRead a).cyclesRemaining = s.cyclesRemaining := by
  unfold State.afterRead; split <;> rfl
@[simp] theorem State.afterRead_colorMode (s : State) (a : Word) : (s.afterRead a).colorMode = s.colorMode := by
  unfold State.afterRead; split <;> rfl
@[simp] theorem State.afterRead_wram (s : State) (a : Word) : (s.afterRead a).wram = s.wram := by
  unfold State.afterRead; split <;> rfl
@[simp] theorem State.afterRead_hram (s : State) (a : Word) : (s.afterRead a).hram = s.hram := by
  unfold State.afterRead; split <;> rfl
@[simp] theorem State.afterRead_svbk (s : State) (a : Word) : (s.afterRead a).svbk = s.svbk := by
  unfold State.afterRead; split <;> rfl
@[simp] theorem State.afterRead_ppu (s : State) (a : Word) : (s.afterRead a).ppu = s.ppu := by
  unfold State.afterRead; split <;> rfl
@[simp] theorem State.afterRead_dma (s : State) (a : Word) : (s.afterRead a).dma = s.dma := by
  unfold State.afterRead; split <;> rfl
@[simp] theorem State.afterRead_cart (s : State) (a : Word) : (s.afterRead a).cart = s.cart := by
  unfold State.afterRead; split <;> rfl
@[simp] theorem State.afterRead_envDraws (s : State) (a : Word) :
    (s.afterRead a).envDraws = if isEnvAddr a then s.envDraws + 1 else s.envDraws := by
  unfold State.afterRead; split <;> rfl
@[simp] theorem State.afterRead_envWrites (s : State) (a : Word) : (s.afterRead a).envWrites = s.envWrites := by
  unfold State.afterRead; split <;> rfl
@[simp] theorem State.afterRead_external (s : State) (a : Word) : (s.afterRead a).external = s.external := by
  unfold State.afterRead; split <;> rfl

/-- A read outside the peripheral window leaves the whole state (R120). -/
theorem State.afterRead_of_not_env (s : State) (a : Word) (h : isEnvAddr a = false) : s.afterRead a = s := by
  simp [State.afterRead, h]

/-! ### The terminal states -/

@[simp] theorem State.raiseFault_terminal (s : State) (a : Word) : (s.raiseFault a).terminal = true := rfl
@[simp] theorem State.raiseLock_terminal (s : State) (op : Byte) : (s.raiseLock op).terminal = true := rfl

/-- Whether the machine is terminal depends on RunState alone. -/
theorem State.terminal_congr {s t : State} (h : t.runState = s.runState) : t.terminal = s.terminal := by
  simp [State.terminal, h]

end Sys2Proof.Machine
end

