-- ==== Sys2Proof/Laws/Ops.lean ====
section
/-! SUPPORT. The named operations: what each register view reads after each write, the flags after each write, and the
whole outcome of each access, of a fetch, and of the stack helpers. -/

namespace Sys2Proof.Machine

/-! ### Register views (R30, R31, R33) -/

/-- What an 8-bit register reads after a write of one. -/
theorem Regs.r8_setR8 (g : Regs) (r r' : Reg8) (v : Byte) : (g.setR8 r v).r8 r' = if r' = r then v else g.r8 r' := by
  cases r <;> cases r' <;> simp [Regs.r8, Regs.setR8]

/-- What an 8-bit register reads after a write of one. -/
theorem State.r8_setR8 (s : State) (r r' : Reg8) (v : Byte) : (s.setR8 r v).r8 r' = if r' = r then v else s.r8 r' :=
  s.regs.r8_setR8 r r' v

@[simp] theorem State.r8_setR8_self (s : State) (r : Reg8) (v : Byte) : (s.setR8 r v).r8 r = v := by
  simp [State.r8_setR8]

@[simp] theorem Regs.setR8_sp (g : Regs) (r : Reg8) (v : Byte) : (g.setR8 r v).sp = g.sp := by cases r <;> rfl
@[simp] theorem Regs.setR8_pc (g : Regs) (r : Reg8) (v : Byte) : (g.setR8 r v).pc = g.pc := by cases r <;> rfl
@[simp] theorem Regs.setR16_pc (g : Regs) (r : Reg16) (v : Word) : (g.setR16 r v).pc = g.pc := by cases r <;> rfl

/-- Writing back what a register holds changes nothing. -/
@[simp] theorem State.setR8_r8 (s : State) (r : Reg8) : s.setR8 r (s.r8 r) = s := by
  cases s with
  | mk regs =>
    cases regs
    cases r <;> simp [State.setR8, State.r8, Regs.r8, Regs.setR8, setHi, setLo]

@[simp] theorem State.r8_setPc (s : State) (a : Word) (r : Reg8) : (s.setPc a).r8 r = s.r8 r := by cases r <;> rfl
@[simp] theorem State.r8_charge (s : State) (n : Nat) (r : Reg8) : (s.charge n).r8 r = s.r8 r := rfl
@[simp] theorem State.r8_afterRead (s : State) (a : Word) (r : Reg8) : (s.afterRead a).r8 r = s.r8 r := by
  simp [State.r8]

/-! ### Flags (R33) -/

@[simp] theorem Flags.ofByte_toByte (f : Flags) : Flags.ofByte f.toByte = f := by
  obtain ⟨z, n, h, c⟩ := f
  revert z n h c
  decide

/-- The flags are bits 7 to 4 alone. -/
theorem Flags.ofByte_and (b : Byte) : Flags.ofByte (b &&& 0xF0#8) = Flags.ofByte b := by
  simp [Flags.ofByte]

/-- The flags of a state are bits 7 to 4 of the stored low byte of AF. -/
theorem State.flags_eq (s : State) : s.flags = Flags.ofByte (loByte s.regs.af) := by
  simp only [State.flags, State.f, Regs.afValue, loByte_and]
  exact Flags.ofByte_and _

/-- The flags depend on AF alone. -/
theorem State.flags_congr {s t : State} (h : t.regs.af = s.regs.af) : t.flags = s.flags := by
  simp only [State.flags_eq, h]

@[simp] theorem State.flags_setFlags (s : State) (f : Flags) : (s.setFlags f).flags = f := by
  simp [State.flags_eq]

@[simp] theorem State.flags_setR8 (s : State) (r : Reg8) (v : Byte) : (s.setR8 r v).flags = s.flags := by
  cases r <;> simp [State.flags_eq, Regs.setR8]

@[simp] theorem State.flags_charge (s : State) (n : Nat) : (s.charge n).flags = s.flags := rfl
@[simp] theorem State.flags_setPc (s : State) (a : Word) : (s.setPc a).flags = s.flags := rfl
@[simp] theorem State.flags_afterRead (s : State) (a : Word) : (s.afterRead a).flags = s.flags :=
  State.flags_congr (by simp)

@[simp] theorem State.r8_setFlags (s : State) (f : Flags) (r : Reg8) : (s.setFlags f).r8 r = s.r8 r := by
  cases r <;> simp [State.r8, Regs.r8]

/-- F reads with its low nibble 0, whatever AF holds (R33). -/
theorem State.f_low (s : State) : s.f &&& 0x0F#8 = 0#8 := by
  simp only [State.f, Regs.afValue, loByte_and]
  rw [BitVec.and_assoc]
  exact BitVec.and_zero

/-! ### Accesses (R104, R105, R118) -/

@[simp] theorem Access.run_ok {α : Type} (x : α) (s : State) (k : α → State → State) : (Access.ok x s).run k = k x s := rfl
@[simp] theorem Access.run_stop {α : Type} (s : State) (k : α → State → State) : (Access.stop s).run k = s := rfl
@[simp] theorem Access.andThen_ok {α β : Type} (x : α) (s : State) (k : α → State → Access β) :
    (Access.ok x s).andThen k = k x s := rfl
@[simp] theorem Access.andThen_stop {α β : Type} (s : State) (k : α → State → Access β) :
    (Access.stop s).andThen k = .stop s := rfl

/-- A read whose byte the bus gives. -/
theorem State.read_of_some {s : State} {a : Word} {v : Byte} (h : s.busRead a = some v) :
    s.read a = .ok v (s.afterRead a) := by simp [State.read, h]

/-- A read in the hole. -/
theorem State.read_of_hole {s : State} {a : Word} (h : regionOf a = .hole) : s.read a = .stop (s.raiseFault a) := by
  simp [State.read, (s.busRead_eq_none a).2 h]

/-- A write the bus takes. -/
theorem State.write_of_some {s t : State} {a : Word} {v : Byte} (h : s.busWrite a v = some t) :
    s.write a v = .ok () t := by simp [State.write, h]

/-- A write in the hole. -/
theorem State.write_of_hole {s : State} {a : Word} {v : Byte} (h : regionOf a = .hole) :
    s.write a v = .stop (s.raiseFault a) := by
  simp [State.write, (s.busWrite_eq_none a v).2 h]

/-- A read: the byte, or the fault. -/
theorem State.read_cases (s : State) (a : Word) :
    (∃ v, s.busRead a = some v ∧ s.read a = .ok v (s.afterRead a)) ∨
      (regionOf a = .hole ∧ s.read a = .stop (s.raiseFault a)) := by
  by_cases h : regionOf a = .hole
  · exact .inr ⟨h, State.read_of_hole h⟩
  · obtain ⟨v, hv⟩ := s.exists_busRead h
    exact .inl ⟨v, hv, State.read_of_some hv⟩

/-- A write: the state after it, or the fault. -/
theorem State.write_cases (s : State) (a : Word) (v : Byte) :
    (∃ t, s.busWrite a v = some t ∧ s.write a v = .ok () t) ∨
      (regionOf a = .hole ∧ s.write a v = .stop (s.raiseFault a)) := by
  by_cases h : regionOf a = .hole
  · exact .inr ⟨h, State.write_of_hole h⟩
  · obtain ⟨t, ht⟩ := s.exists_busWrite v h
    exact .inl ⟨t, ht, State.write_of_some ht⟩

/-- A fetched byte: PC advances after the read (R14, R35). -/
theorem State.fetch8_of_some {s : State} {v : Byte} (h : s.busRead s.regs.pc = some v) :
    s.fetch8 = .ok v ((s.afterRead s.regs.pc).setPc (s.regs.pc + 1)) := by
  simp [State.fetch8, State.read_of_some h]

/-- A fetch in the hole leaves PC there (R118, log entry 12). -/
theorem State.fetch8_of_hole {s : State} (h : regionOf s.regs.pc = .hole) :
    s.fetch8 = .stop (s.raiseFault s.regs.pc) := by
  simp [State.fetch8, State.read_of_hole h]

/-! ### The stack (R130, R131) -/

/-- A push whose two bytes the bus takes. -/
theorem State.push16_of_some {s t u : State} {v : Word}
    (h1 : (s.setR16 .sp (s.regs.sp - 1)).busWrite (s.regs.sp - 1) (hiByte v) = some t)
    (h2 : (t.setR16 .sp (t.regs.sp - 1)).busWrite (t.regs.sp - 1) (loByte v) = some u) :
    s.push16 v = .ok () u := by
  simp only [State.push16, State.setR16_regs, Regs.setR16]
  rw [State.write_of_some h1]
  simp only [Access.andThen_ok]
  exact State.write_of_some h2

/-- A pop whose two bytes the bus gives. -/
theorem State.pop16_of_some {s : State} {lo hi : Byte} (h1 : s.busRead s.regs.sp = some lo)
    (h2 : ((s.afterRead s.regs.sp).setR16 .sp (s.regs.sp + 1)).busRead (s.regs.sp + 1) = some hi) :
    s.pop16 = .ok (mkWord hi lo)
      ((((s.afterRead s.regs.sp).setR16 .sp (s.regs.sp + 1)).afterRead (s.regs.sp + 1)).setR16 .sp (s.regs.sp + 2)) := by
  simp only [State.pop16]
  rw [State.read_of_some h1]
  simp only [Access.andThen_ok, State.setR16_regs, State.afterRead_regs, Regs.setR16]
  rw [State.read_of_some h2]
  simp only [Access.andThen_ok, State.setR16_regs, State.afterRead_regs, Regs.setR16]
  congr 2
  rw [BitVec.add_assoc]
  rfl

/-! ### Interrupt transitions (R430) -/

/-- The deferred EI transition touches IME and PendingEI alone, and keeps what R431 asks. -/
theorem State.applyPendingEI_cases (s : State) :
    (s.pendingEI = .none ∧ s.applyPendingEI = s) ∨
      (s.pendingEI = .delayEnable ∧ s.applyPendingEI = { s with pendingEI := .enableNextTick }) ∨
      (s.pendingEI = .enableNextTick ∧ s.applyPendingEI = { s with ime := true, pendingEI := .none }) := by
  unfold State.applyPendingEI
  cases h : s.pendingEI <;> simp

end Sys2Proof.Machine
end

