-- ==== Sys2Proof/Laws/Events.lean ====
section
/-! SUPPORT. The events of a gap: what they leave of the CPU, that Locked and Faulted stand through them, and what a step
of a machine that has stopped is. -/

namespace Sys2Proof.Machine

/-- The CPU's state that no event between dots touches (R505, R506). -/
structure State.SameCpu (s t : State) : Prop where
  regs : t.regs = s.regs
  ime : t.ime = s.ime
  pendingEI : t.pendingEI = s.pendingEI
  cyclesRemaining : t.cyclesRemaining = s.cyclesRemaining
  ended : s.terminal = true → t.runState = s.runState

theorem State.SameCpu.refl (s : State) : s.SameCpu s := ⟨rfl, rfl, rfl, rfl, fun _ => rfl⟩

theorem State.SameCpu.trans {s t u : State} (h : s.SameCpu t) (k : t.SameCpu u) : s.SameCpu u where
  regs := k.regs.trans h.regs
  ime := k.ime.trans h.ime
  pendingEI := k.pendingEI.trans h.pendingEI
  cyclesRemaining := k.cyclesRemaining.trans h.cyclesRemaining
  ended hs := (k.ended ((State.terminal_congr (h.ended hs)).trans hs)).trans (h.ended hs)

/-- A machine that has stopped keeps its RunState, whatever it is compared with (R440, R441). -/
@[simp] theorem State.keepingEnd_runState {s : State} (t : State) (h : s.terminal = true) :
    (s.keepingEnd t).runState = s.runState := by
  simp [State.keepingEnd, h]

theorem State.SameCpu.keepingEnd {s t : State} (hr : t.regs = s.regs) (hi : t.ime = s.ime)
    (hp : t.pendingEI = s.pendingEI) (hc : t.cyclesRemaining = s.cyclesRemaining) : s.SameCpu (s.keepingEnd t) := by
  refine ⟨?_, ?_, ?_, ?_, State.keepingEnd_runState t⟩ <;> unfold State.keepingEnd <;> split <;> assumption

/-- What one event leaves of the CPU. -/
theorem State.sameCpu_applyEvent (s : State) (e : ExternalEvent) : s.SameCpu (s.applyEvent e) := by
  cases e with
  | timerRequest | serialRequest | joypadRequest | rtcAdvance k => exact ⟨rfl, rfl, rfl, rfl, fun _ => rfl⟩
  | hostRead a =>
    refine State.SameCpu.keepingEnd ?_ ?_ ?_ ?_ <;> unfold State.hostRead State.read State.afterRead <;> split <;>
      first | rfl | (simp only [Access.run_ok]; split <;> rfl)
  | hostWrite a v =>
    show s.SameCpu (s.keepingEnd ((s.write a v).run fun _ t => t))
    rcases hb : s.busWrite a v with _ | t
    · rw [State.write_of_hole ((s.busWrite_eq_none a v).1 hb)]
      exact .keepingEnd rfl rfl rfl rfl
    · rw [State.write_of_some hb]
      obtain ⟨h1, h2, h3, -, h5, -⟩ := State.busWrite_cpu hb
      exact .keepingEnd h1 h2 h3 h5

/-- What the events of a gap leave of the CPU. -/
theorem State.sameCpu_applyEvents (s : State) (es : List ExternalEvent) : s.SameCpu (s.applyEvents es) := by
  induction es generalizing s with
  | nil => exact .refl s
  | cons e rest ih => exact (s.sameCpu_applyEvent e).trans (ih _)

theorem State.sameCpu_takeEvents (s : State) : s.SameCpu s.takeEvents := by
  unfold State.takeEvents
  split
  · exact .refl s
  · next rest _ =>
    have h : s.SameCpu { s with external := rest } := ⟨rfl, rfl, rfl, rfl, fun _ => rfl⟩
    exact h.trans (State.sameCpu_applyEvents _ _)

/-- No event, nothing done. -/
@[simp] theorem State.takeEvents_nil {s : State} (h : s.external = []) : s.takeEvents = s := by
  simp [State.takeEvents, h]

/-- The gap before the dot is empty. -/
@[simp] theorem State.takeEvents_empty (s : State) (rest : List (List ExternalEvent)) :
    { s with external := [] :: rest }.takeEvents = { s with external := rest } := rfl

/-- A machine that has stopped stays stopped through the events. -/
theorem State.terminal_takeEvents {s : State} (h : s.terminal = true) : s.takeEvents.terminal = true :=
  (State.terminal_congr (s.sameCpu_takeEvents.ended h)).trans h

/-- A step of a machine that has stopped is the events of the gap alone (R410, R440, R441). -/
theorem step_of_terminal {s : State} (h : s.terminal = true) : step s = .next s.takeEvents := by
  simp [step, State.dotTick, State.terminal_takeEvents h]

end Sys2Proof.Machine
end

