-- ==== Sys2Proof/Laws/Exec.lean ====
section
/-! SUPPORT. Said once: what an instruction can do to a state. `Effect` is the closure of the named operations; every
instruction but the ones that write RunState, IME or PendingEI is one, so a property that the operations keep is kept by
every instruction. -/

namespace Sys2Proof.Machine

/-- What a sequence of named operations makes of a state. -/
inductive Effect (s : State) : State → Prop where
  | refl : Effect s s
  | setR8 {t : State} (r : Reg8) (v : Byte) (h : Effect s t) : Effect s (t.setR8 r v)
  | setR16 {t : State} (r : Reg16) (v : Word) (h : Effect s t) : Effect s (t.setR16 r v)
  | setFlags {t : State} (f : Flags) (h : Effect s t) : Effect s (t.setFlags f)
  | setPc {t : State} (a : Word) (h : Effect s t) : Effect s (t.setPc a)
  | charge {t : State} (n : Nat) (h : Effect s t) : Effect s (t.charge n)
  | afterRead {t : State} (a : Word) (h : Effect s t) : Effect s (t.afterRead a)
  | write {t u : State} (a : Word) (v : Byte) (h : Effect s t) (hw : t.busWrite a v = some u) : Effect s u
  | fault {t : State} (a : Word) (h : Effect s t) (hr : regionOf a = .hole) : Effect s (t.raiseFault a)

/-- Both outcomes of an access satisfy `P`. -/
def Access.All {α : Type} (P : State → Prop) (x : Access α) : Prop :=
  match x with
  | .ok _ t => P t
  | .stop t => P t

theorem Access.All.andThen {α β : Type} {P : State → Prop} {x : Access α} {k : α → State → Access β} (hx : x.All P)
    (hk : ∀ v t, P t → (k v t).All P) : (x.andThen k).All P := by
  cases x with
  | ok v t => exact hk v t hx
  | stop t => exact hx

theorem Access.All.run {α : Type} {P : State → Prop} {x : Access α} {k : α → State → State} (hx : x.All P)
    (hk : ∀ v t, P t → P (k v t)) : P (x.run k) := by
  cases x with
  | ok v t => exact hk v t hx
  | stop t => exact hx

variable {s t : State}

theorem Effect.read (h : Effect s t) (a : Word) : (t.read a).All (Effect s) := by
  rcases t.read_cases a with ⟨v, -, hr⟩ | ⟨hh, hr⟩
  · rw [hr]; exact h.afterRead a
  · rw [hr]; exact h.fault a hh

theorem Effect.busWrite (h : Effect s t) (a : Word) (v : Byte) : (t.write a v).All (Effect s) := by
  rcases t.write_cases a v with ⟨u, hw, hr⟩ | ⟨hh, hr⟩
  · rw [hr]; exact h.write a v hw
  · rw [hr]; exact h.fault a hh

theorem Effect.readLoc (h : Effect s t) (z : Loc8) : (t.readLoc z).All (Effect s) := by
  cases z with
  | reg r => exact h
  | mhl => exact h.read _

theorem Effect.writeLoc (h : Effect s t) (z : Loc8) (v : Byte) : (t.writeLoc z v).All (Effect s) := by
  cases z with
  | reg r => exact h.setR8 r v
  | mhl => exact h.busWrite _ v

theorem Effect.push16 (h : Effect s t) (v : Word) : (t.push16 v).All (Effect s) :=
  ((h.setR16 .sp _).busWrite _ _).andThen fun _ _ h => (h.setR16 .sp _).busWrite _ _

theorem Effect.pop16 (h : Effect s t) : (t.pop16).All (Effect s) :=
  (h.read _).andThen fun _ _ h => ((h.setR16 .sp _).read _).andThen fun _ _ h => h.setR16 .sp _

/-- A bus fetch is an effect too. -/
theorem Effect.fetch8 (h : Effect s t) : (t.fetch8).All (Effect s) := (h.read _).andThen fun _ _ h => h.setPc _

theorem Effect.fetchBytes (h : Effect s t) (n : Nat) : (t.fetchBytes n).All (Effect s) := by
  induction n generalizing t with
  | zero => exact h
  | succ n ih => exact h.fetch8.andThen fun _ _ h => (ih h).andThen fun _ _ h => h

/-! ### The shapes of instruction -/

theorem effect_loadFrom (r : Reg8) (a : Word) (n : Nat) : Effect s (s.loadFrom r a n) :=
  (Effect.refl.read a).run fun v _ h => (h.setR8 r v).charge n

theorem effect_storeTo (a : Word) (v : Byte) (n : Nat) : Effect s (s.storeTo a v n) :=
  (Effect.refl.busWrite a v).run fun _ _ h => h.charge n

theorem effect_storeStep (d : Word) : Effect s (s.storeStep d) :=
  (Effect.refl.busWrite _ _).run fun _ _ h => (h.setR16 .hl _).charge 2

theorem effect_loadStep (d : Word) : Effect s (s.loadStep d) :=
  (Effect.refl.read _).run fun v _ h => ((h.setR8 .a v).setR16 .hl _).charge 2

theorem effect_storeSp (a : Word) : Effect s (s.storeSp a) :=
  ((Effect.refl.busWrite a _).andThen fun _ _ h => h.busWrite _ _).run fun _ _ h => h.charge 5

theorem effect_pushReg (r : Reg16) : Effect s (s.pushReg r) := (Effect.refl.push16 _).run fun _ _ h => h.charge 4

theorem effect_popReg (r : Reg16) : Effect s (s.popReg r) :=
  (Effect.refl.pop16).run fun v _ h => (h.setR16 r v).charge 3

theorem effect_alu (op : AluOp) (v : Byte) (h : Effect s t) : Effect s (t.alu op v) := (h.setR8 .a _).setFlags _

theorem effect_aluLoc (op : AluOp) (z : Loc8) : Effect s (s.aluLoc op z) := by
  cases z with
  | reg r => exact (effect_alu op _ .refl).charge 1
  | mhl => exact (Effect.refl.read _).run fun v _ h => (effect_alu op v h).charge 2

theorem effect_modify (z : Loc8) (f : Byte → Flags → Byte × Flags) (n : Nat) : Effect s (s.modify z f n) := by
  unfold State.modify
  refine Access.All.run (Access.All.andThen (Effect.refl.readLoc z) fun v t h => ?_) fun _ _ h => h.charge n
  exact (h.writeLoc z _).andThen fun _ _ h => h.setFlags _

theorem effect_modifyPlain (z : Loc8) (f : Byte → Byte) (n : Nat) : Effect s (s.modifyPlain z f n) :=
  ((Effect.refl.readLoc z).andThen fun _ _ h => h.writeLoc z _).run fun _ _ h => h.charge n

theorem effect_testBit (b : Nat) (z : Loc8) : Effect s (s.testBit b z) :=
  (Effect.refl.readLoc z).run fun _ _ h => (h.setFlags _).charge _

theorem effect_call (a : Word) (n : Nat) : Effect s (s.call a n) :=
  (Effect.refl.push16 _).run fun _ _ h => (h.setPc a).charge n

theorem effect_ret (n : Nat) : Effect s (s.ret n) := (Effect.refl.pop16).run fun pc _ h => (h.setPc pc).charge n

theorem effect_jump (a : Word) (n : Nat) : Effect s (s.jump a n) := (Effect.refl.setPc a).charge n

theorem effect_jumpIf (cc : Cond) (a : Word) : Effect s (s.jumpIf cc a) := by
  unfold State.jumpIf; split
  · exact effect_jump a 4
  · exact Effect.refl.charge 3

theorem effect_jumpRelIf (cc : Cond) (e : Byte) : Effect s (s.jumpRelIf cc e) := by
  unfold State.jumpRelIf; split
  · exact effect_jump _ 3
  · exact Effect.refl.charge 2

theorem effect_callIf (cc : Cond) (a : Word) : Effect s (s.callIf cc a) := by
  unfold State.callIf; split
  · exact effect_call a 6
  · exact Effect.refl.charge 3

theorem effect_retIf (cc : Cond) : Effect s (s.retIf cc) := by
  unfold State.retIf; split
  · exact effect_ret 5
  · exact Effect.refl.charge 2

theorem effect_charge (n : Nat) : Effect s (s.charge n) := Effect.refl.charge n

theorem effect_copyReg (r r' : Reg8) : Effect s (s.copyReg r r') := (Effect.refl.setR8 _ _).charge _

theorem effect_loadImm (r : Reg8) (n : Byte) : Effect s (s.loadImm r n) := (Effect.refl.setR8 _ _).charge _

theorem effect_loadImm16 (r : Reg16) (n : Word) : Effect s (s.loadImm16 r n) := (Effect.refl.setR16 _ _).charge _

theorem effect_copyHlToSp : Effect s s.copyHlToSp := (Effect.refl.setR16 _ _).charge _

theorem effect_loadHlSp (e : Byte) : Effect s (s.loadHlSp e) := ((Effect.refl.setR16 _ _).setFlags _).charge _

theorem effect_aluImm (op : AluOp) (n : Byte) : Effect s (s.aluImm op n) := (effect_alu op n .refl).charge _

theorem effect_incLoc (z : Loc8) : Effect s (s.incLoc z) := effect_modify _ _ _

theorem effect_decLoc (z : Loc8) : Effect s (s.decLoc z) := effect_modify _ _ _

theorem effect_adjustA : Effect s s.adjustA := ((Effect.refl.setR8 _ _).setFlags _).charge _

theorem effect_complementA : Effect s s.complementA := ((Effect.refl.setR8 _ _).setFlags _).charge _

theorem effect_setCarry : Effect s s.setCarry := (Effect.refl.setFlags _).charge _

theorem effect_flipCarry : Effect s s.flipCarry := (Effect.refl.setFlags _).charge _

theorem effect_stepReg16 (r : Reg16) (d : Word) : Effect s (s.stepReg16 r d) := (Effect.refl.setR16 _ _).charge _

theorem effect_addToHl (r : Reg16) : Effect s (s.addToHl r) := ((Effect.refl.setR16 _ _).setFlags _).charge _

theorem effect_addToSp (e : Byte) : Effect s (s.addToSp e) := ((Effect.refl.setR16 _ _).setFlags _).charge _

theorem effect_rotateA (op : ShiftOp) : Effect s (s.rotateA op) := ((Effect.refl.setR8 _ _).setFlags _).charge _

theorem effect_shiftLoc (op : ShiftOp) (z : Loc8) : Effect s (s.shiftLoc op z) := effect_modify _ _ _

theorem effect_clearBit (b : Nat) (z : Loc8) : Effect s (s.clearBit b z) := effect_modifyPlain _ _ _

theorem effect_setBitAt (b : Nat) (z : Loc8) : Effect s (s.setBitAt b z) := effect_modifyPlain _ _ _

theorem effect_jumpRel (e : Byte) : Effect s (s.jumpRel e) := effect_jump _ _

theorem effect_cbExec (op2 : Byte) : Effect s (s.cbExec op2) := by
  unfold State.cbExec
  dsimp only
  split
  · exact effect_modify _ _ _
  · exact effect_testBit _ _
  · exact effect_modifyPlain _ _ _
  · exact effect_modifyPlain _ _ _

/-- The instructions that write RunState, IME or PendingEI. -/
def Instr.isControlState (i : Instr) : Bool :=
  match i with
  | .halt | .stop _ | .di | .ei | .reti | .illegal_d3 | .illegal_db | .illegal_dd | .illegal_e3 | .illegal_e4
  | .illegal_eb | .illegal_ec | .illegal_ed | .illegal_f4 | .illegal_fc | .illegal_fd => true
  | _ => false

set_option maxRecDepth 8000 in
/-- Every other instruction is a sequence of the named operations. -/
theorem exec_effect (i : Instr) (s : State) (h : Instr.isControlState i = false) :
    ∃ t, exec i s = .next t ∧ Effect s t := by
  cases i
  all_goals first
    | (refine ⟨_, rfl, ?_⟩; simp only [
      effect_charge, effect_copyReg, effect_loadImm, effect_loadFrom, effect_storeTo, effect_storeStep,
      effect_loadStep, effect_loadImm16, effect_storeSp, effect_copyHlToSp, effect_loadHlSp, effect_pushReg,
      effect_popReg, effect_aluLoc, effect_aluImm, effect_incLoc, effect_decLoc, effect_adjustA,
      effect_complementA, effect_setCarry, effect_flipCarry, effect_stepReg16, effect_addToHl, effect_addToSp,
      effect_rotateA, effect_shiftLoc, effect_testBit, effect_clearBit, effect_setBitAt, effect_jump,
      effect_jumpIf, effect_jumpRel, effect_jumpRelIf, effect_call, effect_callIf, effect_ret, effect_retIf,
      effect_cbExec]; done)
    | exact absurd (show true = false from h) (by decide)

end Sys2Proof.Machine
end

