-- ==== Sys2Proof/Laws/Operands.lean ====
section
/-! SUPPORT. One lemma for each shape of instruction that reaches the bus: its whole outcome where the bus answers, and the
fault where it does not. The shapes on registers alone unfold to what they say. -/

namespace Sys2Proof.Machine

variable {s t u : State} {a : Word} {v : Byte}

/-! ### Loads and stores -/

theorem State.loadFrom_of_some (r : Reg8) (n : Nat) (h : s.busRead a = some v) :
    s.loadFrom r a n = ((s.afterRead a).setR8 r v).charge n := by
  simp [State.loadFrom, State.read_of_some h]

theorem State.loadFrom_of_hole (r : Reg8) (n : Nat) (h : regionOf a = .hole) : s.loadFrom r a n = s.raiseFault a := by
  simp [State.loadFrom, State.read_of_hole h]

theorem State.storeTo_of_some (n : Nat) (h : s.busWrite a v = some t) : s.storeTo a v n = t.charge n := by
  simp [State.storeTo, State.write_of_some h]

theorem State.storeTo_of_hole (n : Nat) (h : regionOf a = .hole) : s.storeTo a v n = s.raiseFault a := by
  simp [State.storeTo, State.write_of_hole h]

theorem State.loadStep_of_some (d : Word) (h : s.busRead s.regs.hl = some v) :
    s.loadStep d = (((s.afterRead s.regs.hl).setR8 .a v).setR16 .hl (s.regs.hl + d)).charge 2 := by
  simp [State.loadStep, State.read_of_some h, Regs.setR8]

theorem State.loadStep_of_hole (d : Word) (h : regionOf s.regs.hl = .hole) :
    s.loadStep d = s.raiseFault s.regs.hl := by
  simp [State.loadStep, State.read_of_hole h]

theorem State.storeStep_of_some (d : Word) (h : s.busWrite s.regs.hl (s.r8 .a) = some t) :
    s.storeStep d = (t.setR16 .hl (s.regs.hl + d)).charge 2 := by
  simp [State.storeStep, State.write_of_some h, (State.busWrite_cpu h).1]

theorem State.storeStep_of_hole (d : Word) (h : regionOf s.regs.hl = .hole) :
    s.storeStep d = s.raiseFault s.regs.hl := by
  simp [State.storeStep, State.write_of_hole h]

/-! ### SP and the stack -/

theorem State.storeSp_of_some (h1 : s.busWrite a (loByte s.regs.sp) = some t)
    (h2 : t.busWrite (a + 1) (hiByte s.regs.sp) = some u) : s.storeSp a = u.charge 5 := by
  have hr := (State.busWrite_cpu h1).1
  simp only [State.storeSp, State.write_of_some h1, Access.andThen_ok, hr, State.write_of_some h2, Access.run_ok]

theorem State.storeSp_of_hole (h : regionOf a = .hole) : s.storeSp a = s.raiseFault a := by
  simp [State.storeSp, State.write_of_hole h]

theorem State.storeSp_of_hole_second (h1 : s.busWrite a (loByte s.regs.sp) = some t) (h2 : regionOf (a + 1) = .hole) :
    s.storeSp a = t.raiseFault (a + 1) := by
  simp only [State.storeSp, State.write_of_some h1, Access.andThen_ok, State.write_of_hole h2, Access.run_stop]

/-- One less, then one less again. -/
theorem sub_one_sub_one (w : Word) : w - 1 - 1 = w - 2 := by
  rw [BitVec.sub_sub]; rfl

/-- A push whose two bytes the bus takes, with SP as a difference from the SP before. -/
theorem State.push16_of_some' {w : Word}
    (h1 : (s.setR16 .sp (s.regs.sp - 1)).busWrite (s.regs.sp - 1) (hiByte w) = some t)
    (h2 : (t.setR16 .sp (s.regs.sp - 2)).busWrite (s.regs.sp - 2) (loByte w) = some u) : s.push16 w = .ok () u := by
  have hsp : t.regs.sp - 1 = s.regs.sp - 2 := by
    rw [(State.busWrite_cpu h1).1]; exact sub_one_sub_one _
  exact State.push16_of_some h1 (by rw [hsp]; exact h2)

theorem State.push16_of_hole {w : Word} (h : regionOf (s.regs.sp - 1) = .hole) :
    s.push16 w = .stop ((s.setR16 .sp (s.regs.sp - 1)).raiseFault (s.regs.sp - 1)) := by
  simp only [State.push16, State.setR16_regs, Regs.setR16, State.write_of_hole h, Access.andThen_stop]

theorem State.push16_of_hole_second {w : Word}
    (h1 : (s.setR16 .sp (s.regs.sp - 1)).busWrite (s.regs.sp - 1) (hiByte w) = some t)
    (h2 : regionOf (s.regs.sp - 2) = .hole) :
    s.push16 w = .stop ((t.setR16 .sp (s.regs.sp - 2)).raiseFault (s.regs.sp - 2)) := by
  have hsp : t.regs.sp - 1 = s.regs.sp - 2 := by
    rw [(State.busWrite_cpu h1).1]; exact sub_one_sub_one _
  simp only [State.push16, State.setR16_regs, Regs.setR16]
  rw [State.write_of_some h1]
  simp only [Access.andThen_ok, hsp]
  exact State.write_of_hole h2

/-- A read does not depend on the registers. -/
theorem State.busRead_setR16 (s : State) (r : Reg16) (w a : Word) : (s.setR16 r w).busRead a = s.busRead a := rfl

/-- A pop whose two bytes the bus gives, in one state after both reads. -/
theorem State.pop16_of_some' {lo hi : Byte} (h1 : s.busRead s.regs.sp = some lo)
    (h2 : (s.afterRead s.regs.sp).busRead (s.regs.sp + 1) = some hi) :
    s.pop16 = .ok (mkWord hi lo)
      (((s.afterRead s.regs.sp).afterRead (s.regs.sp + 1)).setR16 .sp (s.regs.sp + 2)) := by
  rw [State.pop16_of_some h1 (by rw [State.busRead_setR16]; exact h2)]
  congr 1
  unfold State.afterRead
  split <;> split <;> rfl

theorem State.pop16_of_hole (h : regionOf s.regs.sp = .hole) : s.pop16 = .stop (s.raiseFault s.regs.sp) := by
  simp [State.pop16, State.read_of_hole h]

theorem State.pop16_of_hole_second {lo : Byte} (h1 : s.busRead s.regs.sp = some lo)
    (h2 : regionOf (s.regs.sp + 1) = .hole) :
    s.pop16 = .stop (((s.afterRead s.regs.sp).setR16 .sp (s.regs.sp + 1)).raiseFault (s.regs.sp + 1)) := by
  simp only [State.pop16]
  rw [State.read_of_some h1]
  simp only [Access.andThen_ok, State.setR16_regs, State.afterRead_regs, Regs.setR16]
  rw [State.read_of_hole h2]
  rfl

/-! ### Operands that are read, or read and written back -/

theorem State.aluLoc_of_some (op : AluOp) (h : s.busRead s.regs.hl = some v) :
    s.aluLoc op .mhl = ((s.afterRead s.regs.hl).alu op v).charge 2 := by
  simp [State.aluLoc, State.read_of_some h]

theorem State.aluLoc_of_hole (op : AluOp) (h : regionOf s.regs.hl = .hole) :
    s.aluLoc op .mhl = s.raiseFault s.regs.hl := by
  simp [State.aluLoc, State.read_of_hole h]

theorem State.modify_reg (r : Reg8) (f : Byte → Flags → Byte × Flags) (n : Nat) :
    s.modify (.reg r) f n = ((s.setR8 r (f (s.r8 r) s.flags).1).setFlags (f (s.r8 r) s.flags).2).charge n := rfl

theorem State.modify_of_some (f : Byte → Flags → Byte × Flags) (n : Nat) (h : s.busRead s.regs.hl = some v)
    (hw : (s.afterRead s.regs.hl).busWrite s.regs.hl (f v s.flags).1 = some t) :
    s.modify .mhl f n = (t.setFlags (f v s.flags).2).charge n := by
  simp [State.modify, State.readLoc, State.writeLoc, State.read_of_some h, State.write_of_some hw]

theorem State.modify_of_hole (f : Byte → Flags → Byte × Flags) (n : Nat) (h : regionOf s.regs.hl = .hole) :
    s.modify .mhl f n = s.raiseFault s.regs.hl := by
  simp [State.modify, State.readLoc, State.read_of_hole h]

theorem State.modifyPlain_reg (r : Reg8) (f : Byte → Byte) (n : Nat) :
    s.modifyPlain (.reg r) f n = (s.setR8 r (f (s.r8 r))).charge n := rfl

theorem State.modifyPlain_of_some (f : Byte → Byte) (n : Nat) (h : s.busRead s.regs.hl = some v)
    (hw : (s.afterRead s.regs.hl).busWrite s.regs.hl (f v) = some t) : s.modifyPlain .mhl f n = t.charge n := by
  simp [State.modifyPlain, State.readLoc, State.writeLoc, State.read_of_some h, State.write_of_some hw]

theorem State.modifyPlain_of_hole (f : Byte → Byte) (n : Nat) (h : regionOf s.regs.hl = .hole) :
    s.modifyPlain .mhl f n = s.raiseFault s.regs.hl := by
  simp [State.modifyPlain, State.readLoc, State.read_of_hole h]

theorem State.testBit_reg (b : Nat) (r : Reg8) :
    s.testBit b (.reg r) = (s.setFlags (bitFlags b (s.r8 r) s.flags)).charge 2 := rfl

theorem State.testBit_of_some (b : Nat) (h : s.busRead s.regs.hl = some v) :
    s.testBit b .mhl = ((s.afterRead s.regs.hl).setFlags (bitFlags b v s.flags)).charge 3 := by
  simp [State.testBit, State.readLoc, State.read_of_some h, locTestCycles]

theorem State.testBit_of_hole (b : Nat) (h : regionOf s.regs.hl = .hole) :
    s.testBit b .mhl = s.raiseFault s.regs.hl := by
  simp [State.testBit, State.readLoc, State.read_of_hole h]

/-- The high-page address of a byte as a number (R208). -/
theorem highPage_toNat (n : Byte) : (highPage n).toNat = 0xFF00 + n.toNat := by
  have h : (highPage n) = 0xFF00#16 + n.setWidth 16 := by
    apply BitVec.eq_of_getLsbD_eq
    revert n
    decide
  rw [h]
  bv_omega

end Sys2Proof.Machine
end

