-- ==== Sys2Proof/Laws/Step.lean ====
section
/-! SUPPORT. Said once: what a step can do. The environment's events and the CPU's dispatch make a state by the operations
of `CpuEffect`; then the PPU and the DMA engine move one dot, unless the machine has stopped. A property that each of
these keeps is kept by every step. -/

namespace Sys2Proof.Machine

/-- What the events of a gap and the CPU's part of a dot can make of a state. -/
inductive CpuEffect (s : State) : State → Prop where
  | refl : CpuEffect s s
  | effect {t u : State} (h : CpuEffect s t) (he : Effect t u) : CpuEffect s u
  | runState {t : State} (r : RunState) (h : CpuEffect s t) : CpuEffect s { t with runState := r }
  | cycles {t : State} (n : Nat) (h : CpuEffect s t) : CpuEffect s { t with cyclesRemaining := n }
  | ifr {t : State} (v : BitVec 5) (h : CpuEffect s t) : CpuEffect s { t with ifr := v }
  | imeOff {t : State} (h : CpuEffect s t) : CpuEffect s { t with ime := false }
  | imeOn {t : State} (h : CpuEffect s t) : CpuEffect s { t with ime := true, pendingEI := .none }
  | disable {t : State} (h : CpuEffect s t) : CpuEffect s t.disableInterrupts
  | enable {t : State} (h : CpuEffect s t) : CpuEffect s t.enableInterrupts
  | pendingEI {t : State} (h : CpuEffect s t) : CpuEffect s t.applyPendingEI
  | rtc {t : State} (k : Nat) (h : CpuEffect s t) : CpuEffect s { t with cart := t.cart.rtcAdvance k }
  | external {t : State} (e : List (List ExternalEvent)) (h : CpuEffect s t) : CpuEffect s { t with external := e }

variable {s t : State}

/-! ### The events of a gap -/

theorem CpuEffect.keepingEnd {u : State} (h : CpuEffect s u) : CpuEffect s (t.keepingEnd u) := by
  unfold State.keepingEnd
  split
  · exact h.runState _
  · exact h

theorem CpuEffect.applyEvent (h : CpuEffect s t) (e : ExternalEvent) : CpuEffect s (t.applyEvent e) := by
  cases e with
  | timerRequest => exact h.ifr _
  | serialRequest => exact h.ifr _
  | joypadRequest => exact h.ifr _
  | rtcAdvance k => exact h.rtc k
  | hostRead a => exact (h.effect ((Effect.refl.read a).run fun _ _ h => h)).keepingEnd
  | hostWrite a v => exact (h.effect ((Effect.refl.busWrite a v).run fun _ _ h => h)).keepingEnd

theorem CpuEffect.applyEvents (es : List ExternalEvent) (h : CpuEffect s t) : CpuEffect s (t.applyEvents es) := by
  induction es generalizing t with
  | nil => exact h
  | cons e rest ih => exact ih (h.applyEvent e)

theorem CpuEffect.takeEvents (h : CpuEffect s t) : CpuEffect s t.takeEvents := by
  unfold State.takeEvents
  split
  · exact h
  · exact (h.external _).applyEvents _

/-! ### The CPU's part of a dot -/

theorem CpuEffect.takeInterrupt (h : CpuEffect s t) (i : Irq) : CpuEffect s (t.takeInterrupt i) := by
  have h1 : CpuEffect s { t with ifr := t.ifr &&& ~~~(1#5 <<< i.bit), ime := false } :=
    (h.ifr (t.ifr &&& ~~~(1#5 <<< i.bit))).imeOff
  unfold State.takeInterrupt
  exact Access.All.run (P := CpuEffect s)
    (by
      have := (Effect.refl (s := { t with ifr := t.ifr &&& ~~~(1#5 <<< i.bit), ime := false })).push16 t.regs.pc
      revert this
      generalize State.push16 _ _ = x
      cases x with
      | ok v u => exact fun hu => h1.effect hu
      | stop u => exact fun hu => h1.effect hu)
    fun _ _ hu => (hu.effect (.setPc _ .refl)).cycles _

set_option maxRecDepth 8000 in
theorem CpuEffect.exec (h : CpuEffect s t) (i : Instr) : ∃ u, exec i t = .next u ∧ CpuEffect s u := by
  by_cases hi : Instr.isControlState i = false
  · obtain ⟨u, hu, he⟩ := exec_effect i t hi
    exact ⟨u, hu, h.effect he⟩
  · cases i
    case halt => exact ⟨_, rfl, (h.runState _).effect (.charge 1 .refl)⟩
    case stop n => exact ⟨_, rfl, (h.runState _).effect (.charge 1 .refl)⟩
    case di => exact ⟨_, rfl, h.disable.effect (.charge 1 .refl)⟩
    case ei => exact ⟨_, rfl, h.enable.effect (.charge 1 .refl)⟩
    case reti =>
      refine ⟨_, rfl, Access.All.run (P := CpuEffect s) ?_ fun _ _ h => h.effect (.charge 4 .refl)⟩
      refine Access.All.andThen (P := CpuEffect s) ?_ fun v t h => (h.effect (.setPc v .refl)).imeOn
      have := (Effect.refl (s := t)).pop16
      revert this
      cases t.pop16 with
      | ok v u => exact fun hu => h.effect hu
      | stop u => exact fun hu => h.effect hu
    all_goals first
      | exact absurd rfl hi
      | exact ⟨_, rfl, h.runState _⟩

theorem CpuEffect.afterInstr (h : CpuEffect s t) (i : Instr) :
    ∃ u, Machine.afterInstr (Machine.exec i t) = .next u ∧ CpuEffect s u := by
  obtain ⟨u, hu, he⟩ := h.exec i
  refine ⟨_, by rw [hu]; rfl, ?_⟩
  split
  · exact he
  · exact he.pendingEI

theorem CpuEffect.fetchInstr (h : CpuEffect s t) : t.fetchInstr.All (CpuEffect s) := by
  have h1 : t.fetchInstr.All (Effect t) :=
    Effect.refl.fetch8.andThen fun _ _ h => (h.fetchBytes _).andThen fun _ _ h => h
  revert h1
  cases t.fetchInstr with
  | ok v u => exact fun hu => h.effect hu
  | stop u => exact fun hu => h.effect hu

/-- Fetched bytes are as many as the first one asks for, so they decode (R200, R442). -/
theorem State.fetchBytes_length (s : State) (n : Nat) {vs : List Byte} {t : State} (h : s.fetchBytes n = .ok vs t) :
    vs.length = n := by
  induction n generalizing s vs t with
  | zero => cases h; rfl
  | succ n ih =>
    simp only [State.fetchBytes] at h
    cases h1 : s.fetch8 with
    | stop u => simp [h1] at h
    | ok v u =>
      simp only [h1, Access.andThen_ok] at h
      cases h2 : u.fetchBytes n with
      | stop w => simp [h2] at h
      | ok ws w =>
        simp only [h2, Access.andThen_ok, Access.ok.injEq] at h
        rw [← h.1, List.length_cons, ih u h2]

/-- What a fetch gives: the first byte and as many more as it asks for. -/
theorem State.fetchInstr_ok (s : State) {bytes : List Byte} {t : State} (h : s.fetchInstr = .ok bytes t) :
    ∃ op rest, bytes = op :: rest ∧ rest.length = instrLength op - 1 := by
  unfold State.fetchInstr at h
  cases h1 : s.fetch8 with
  | stop u => simp [h1] at h
  | ok v u =>
    simp only [h1, Access.andThen_ok] at h
    cases h2 : u.fetchBytes (instrLength v - 1) with
    | stop w => simp [h2] at h
    | ok ws w =>
      simp only [h2, Access.andThen_ok, Access.ok.injEq] at h
      exact ⟨v, ws, h.1.symm, u.fetchBytes_length _ h2⟩

/-- An opcode with the bytes it asks for decodes (R200, R442). -/
theorem exists_decode (op : Byte) (rest : List Byte) (h : rest.length = instrLength op - 1) :
    ∃ i, decode (op :: rest) = .ok (i, []) := by
  unfold instrLength at h
  cases hm : mainEntry op with
  | op i =>
    rw [hm] at h
    obtain rfl := List.length_eq_zero_iff.1 h
    exact ⟨resolvePrefix i, by simp [decode, decodeRow, hm]⟩
  | n8 f =>
    rw [hm] at h
    obtain ⟨n, rfl⟩ := List.length_eq_one_iff.1 h
    exact ⟨resolvePrefix (f n), by simp [decode, decodeRow, hm]⟩
  | n16 f =>
    rw [hm] at h
    obtain ⟨lo, hi, rfl⟩ := List.length_eq_two.1 h
    exact ⟨resolvePrefix (f (mkWord hi lo)), by simp [decode, decodeRow, hm]⟩

theorem CpuEffect.fetchAndExec (h : CpuEffect s t) : ∃ u, t.fetchAndExec = .next u ∧ CpuEffect s u := by
  have hf := h.fetchInstr
  unfold State.fetchAndExec
  cases hx : t.fetchInstr with
  | stop u => rw [hx] at hf; exact ⟨u, rfl, hf⟩
  | ok bytes u =>
    rw [hx] at hf
    obtain ⟨op, rest, rfl, hl⟩ := t.fetchInstr_ok hx
    obtain ⟨i, hi⟩ := exists_decode op rest hl
    simp only [hi]
    exact CpuEffect.afterInstr (t := u) hf i

theorem CpuEffect.dispatch (h : CpuEffect s t) : ∃ u, t.dispatch = .next u ∧ CpuEffect s u := by
  have hw : CpuEffect s t.wake := by
    unfold State.wake
    split <;> (try split) <;> first | exact h | exact h.runState _
  have he : ∃ u, t.wake.serviceOrExec = .next u ∧ CpuEffect s u := by
    unfold State.serviceOrExec
    split
    · exact ⟨_, rfl, hw.takeInterrupt _⟩
    · exact hw.fetchAndExec
  unfold State.dispatch
  split
  · exact ⟨_, rfl, hw.cycles _⟩
  · exact ⟨_, rfl, hw.cycles _⟩
  all_goals exact he

theorem CpuEffect.instructionTick (h : CpuEffect s t) : ∃ u, t.instructionTick = .next u ∧ CpuEffect s u := by
  have h1 := h.cycles (t.cyclesRemaining - 1)
  unfold State.instructionTick
  dsimp only
  split
  · exact h1.dispatch
  · exact ⟨_, rfl, h1⟩

/-! ### The step -/

/-- What a step can do: the events and the CPU's part of the dot, and then, unless the machine has stopped, the PPU's and
the DMA engine's dot. It always answers a next state (R442). -/
theorem step_cases (s : State) :
    ∃ u, CpuEffect s u ∧ (step s = .next u ∨ (u.terminal = false ∧ step s = .next u.ppuStep.dmaStep)) := by
  unfold step State.dotTick
  split
  · exact ⟨_, CpuEffect.refl.takeEvents, .inl rfl⟩
  · obtain ⟨u, hu, he⟩ := (CpuEffect.refl (s := s)).takeEvents.instructionTick
    simp only [hu]
    unfold State.afterCpu
    cases ht : u.terminal with
    | true => exact ⟨u, he, .inl (by simp)⟩
    | false => exact ⟨u, he, .inr ⟨ht, by simp⟩⟩

/-- A property that the CPU's operations, the PPU's dot and the DMA engine's dot keep is kept by every step. -/
theorem step_keeps {P : State → Prop} (hc : ∀ s t, CpuEffect s t → P s → P t) (hp : ∀ s, P s → P s.ppuStep)
    (hd : ∀ s, P s → P s.dmaStep) {s t : State} (h : step s = .next t) (hs : P s) : P t := by
  obtain ⟨u, hu, hn | ⟨-, hn⟩⟩ := step_cases s
  · rw [hn] at h; cases h
    exact hc s _ hu hs
  · rw [hn] at h; cases h
    exact hd _ (hp _ (hc s _ hu hs))

end Sys2Proof.Machine
end

