-- ==== Sys2Proof/Tests/Slice0.lean ====
section
/-! SUPPORT. Tests. The expected results are those of the spec: its encoding tables (30_encoding.md), the examples of its
rules and the vectors of 95_test_vectors.md, named in each test. The last part shows, for each statement with hypotheses,
concrete states and operands that meet them. -/

namespace Sys2Proof.Tests

open Sys2Proof.Machine Sys2Proof.Claims

/-! ### Helpers -/

/-- Whether each byte list decodes to the instruction at its place, with nothing left over. -/
def decodesTo (words : List (List Byte)) (expected : List Instr) : Bool :=
  words.length == expected.length &&
    (words.zip expected).all fun x =>
      match decode x.1 with
      | .ok (i, rest) => i == x.2 && rest.isEmpty
      | .error _ => false

/-- Each byte with 0xCB before it. -/
def afterPrefix (ops : List Byte) : List (List Byte) := ops.map fun op => [0xCB#8, op]

/-- The reset state with other registers. -/
def cpu (f : Regs → Regs) : State := { State.reset with regs := f State.reset.regs }

/-- A state with a byte stored behind a bus address. -/
def holding (a : Word) (v : Byte) (s : State) : State := s.place a v

/-- The next state of an outcome. -/
def nextOf (r : Result) : Option State :=
  match r with
  | .next t => some t
  | .fault _ | .refused _ => none

/-- The next state of the instruction of some bytes, PC being past them already. -/
def ran (bytes : List Byte) (s : State) : Option State :=
  match decode bytes with
  | .ok (i, _) => nextOf (exec i s)
  | .error _ => none

/-- Whether that next state passes a check. -/
def check (bytes : List Byte) (s : State) (p : State → Bool) : Bool := (ran bytes s).any p

/-- A and F after. -/
def af (t : State) : Byte × Byte := (t.r8 .a, t.f)

/-- What a cartridge reads after control writes. -/
def cartRead (c : Cart) (writes : List (Word × Byte)) (a : Word) : Byte := (writes.foldl (fun c w => c.write w.1 w.2) c).read a

/-- The byte of bank `b` at its offset 0 is `b`, in the banks listed. -/
def numbered (banks : List Nat) : Memory := banks.map fun b => (b * 0x4000, BitVec.ofNat 8 b)

/-! ### Well-formedness and the table's words -/

/-- The check refuses the bare prefix row (R214) and nothing else. -/
theorem test_wellformed_refuses_prefix : WellFormed (.prefix_cb 0x37#8) = false := by decide

/-- R214: an instruction of the prefixed table is well-formed. -/
theorem test_wellformed_accepts_swap : WellFormed .swap_a = true := by decide

/-- Rows of 8 and 16 bits of `opcode_table.json` as numbered there; the prefix row is the row itself. -/
theorem test_table_words : decodeTableWord 8 0x41 = some .ld_b_c ∧ decodeTableWord 8 0x01 = some (.ld_bc_n16 0#16) ∧
    decodeTableWord 16 0xCB7C = some .bit_7_h ∧ decodeTableWord 8 0xCB = some (.prefix_cb 0#8) := by decide

/-- Words of whole instructions: `LD A,0x7F` and `LD BC,0x0FF0`. -/
theorem test_whole_words : decodeTableWord 16 0x7F3E = some (.ld_a_n8 0x7F#8) ∧
    decodeTableWord 24 0x0FF001 = some (.ld_bc_n16 0x0FF0#16) := by decide

/-- The first step after reset runs the word placed by `withFetchWord`: `LD BC,0x0FF0`, V-S7 (a). -/
theorem test_fetch_word_ld_bc :
    (nextOf (step (State.reset.withFetchWord 24 0x0FF001))).any (fun t =>
      t.regs.bc == 0x0FF0#16 && t.regs.pc == 0x0103#16 && t.cyclesRemaining == 12) = true := by decide

/-- The same of a row of the prefixed table: `BIT 7,H` with H = 0 sets Z and H. -/
theorem test_fetch_word_bit :
    (nextOf (step (State.reset.withFetchWord 16 0xCB7C))).any (fun t =>
      t.f == 0xA0#8 && t.regs.pc == 0x0102#16 && t.cyclesRemaining == 8) = true := by decide

/-- R442: nothing decodes to no instruction but a list that is too short. -/
theorem test_truncated : (match decode [0x01#8, 0xF0#8] with | .error e => e == .truncated 0x01#8 | .ok _ => false) = true := by
  decide

/-! ### Decoding

Every row of the opcode table, its word written bit by bit from the fields x, y, z of R202 (the table's own `match`
values), with the immediate bytes 0x34, 0x12, low byte first (R201). -/

/-- 30_encoding.md R209, row 0x. -/
theorem test_decode_row_0x : decodesTo
    [
      [0b00000000#8], [0b00000001#8, 0x34#8, 0x12#8], [0b00000010#8], [0b00000011#8], [0b00000100#8],
      [0b00000101#8], [0b00000110#8, 0x34#8], [0b00000111#8], [0b00001000#8, 0x34#8, 0x12#8], [0b00001001#8],
      [0b00001010#8], [0b00001011#8], [0b00001100#8], [0b00001101#8], [0b00001110#8, 0x34#8], [0b00001111#8]]
    [
      .nop, .ld_bc_n16 0x1234#16, .ld_mbc_a, .inc_bc, .inc_b, .dec_b, .ld_b_n8 0x34#8, .rlca, .ld_ma16_sp 0x1234#16,
      .add_hl_bc, .ld_a_mbc, .dec_bc, .inc_c, .dec_c, .ld_c_n8 0x34#8, .rrca] = true := by
  decide

/-- 30_encoding.md R209, row 1x. -/
theorem test_decode_row_1x : decodesTo
    [
      [0b00010000#8, 0x34#8], [0b00010001#8, 0x34#8, 0x12#8], [0b00010010#8], [0b00010011#8], [0b00010100#8],
      [0b00010101#8], [0b00010110#8, 0x34#8], [0b00010111#8], [0b00011000#8, 0x34#8], [0b00011001#8],
      [0b00011010#8], [0b00011011#8], [0b00011100#8], [0b00011101#8], [0b00011110#8, 0x34#8], [0b00011111#8]]
    [
      .stop 0x34#8, .ld_de_n16 0x1234#16, .ld_mde_a, .inc_de, .inc_d, .dec_d, .ld_d_n8 0x34#8, .rla, .jr_e8 0x34#8,
      .add_hl_de, .ld_a_mde, .dec_de, .inc_e, .dec_e, .ld_e_n8 0x34#8, .rra] = true := by
  decide

/-- 30_encoding.md R209, row 2x. -/
theorem test_decode_row_2x : decodesTo
    [
      [0b00100000#8, 0x34#8], [0b00100001#8, 0x34#8, 0x12#8], [0b00100010#8], [0b00100011#8], [0b00100100#8],
      [0b00100101#8], [0b00100110#8, 0x34#8], [0b00100111#8], [0b00101000#8, 0x34#8], [0b00101001#8],
      [0b00101010#8], [0b00101011#8], [0b00101100#8], [0b00101101#8], [0b00101110#8, 0x34#8], [0b00101111#8]]
    [
      .jr_nz_e8 0x34#8, .ld_hl_n16 0x1234#16, .ld_mhli_a, .inc_hl, .inc_h, .dec_h, .ld_h_n8 0x34#8, .daa,
      .jr_z_e8 0x34#8, .add_hl_hl, .ld_a_mhli, .dec_hl, .inc_l, .dec_l, .ld_l_n8 0x34#8, .cpl] = true := by
  decide

/-- 30_encoding.md R209, row 3x. -/
theorem test_decode_row_3x : decodesTo
    [
      [0b00110000#8, 0x34#8], [0b00110001#8, 0x34#8, 0x12#8], [0b00110010#8], [0b00110011#8], [0b00110100#8],
      [0b00110101#8], [0b00110110#8, 0x34#8], [0b00110111#8], [0b00111000#8, 0x34#8], [0b00111001#8],
      [0b00111010#8], [0b00111011#8], [0b00111100#8], [0b00111101#8], [0b00111110#8, 0x34#8], [0b00111111#8]]
    [
      .jr_nc_e8 0x34#8, .ld_sp_n16 0x1234#16, .ld_mhld_a, .inc_sp, .inc_mhl, .dec_mhl, .ld_mhl_n8 0x34#8, .scf,
      .jr_c_e8 0x34#8, .add_hl_sp, .ld_a_mhld, .dec_sp, .inc_a, .dec_a, .ld_a_n8 0x34#8, .ccf] = true := by
  decide

/-- 30_encoding.md R209, row 4x. -/
theorem test_decode_row_4x : decodesTo
    [
      [0b01000000#8], [0b01000001#8], [0b01000010#8], [0b01000011#8], [0b01000100#8], [0b01000101#8],
      [0b01000110#8], [0b01000111#8], [0b01001000#8], [0b01001001#8], [0b01001010#8], [0b01001011#8],
      [0b01001100#8], [0b01001101#8], [0b01001110#8], [0b01001111#8]]
    [
      .ld_b_b, .ld_b_c, .ld_b_d, .ld_b_e, .ld_b_h, .ld_b_l, .ld_b_mhl, .ld_b_a, .ld_c_b, .ld_c_c, .ld_c_d, .ld_c_e,
      .ld_c_h, .ld_c_l, .ld_c_mhl, .ld_c_a] = true := by
  decide

/-- 30_encoding.md R209, row 5x. -/
theorem test_decode_row_5x : decodesTo
    [
      [0b01010000#8], [0b01010001#8], [0b01010010#8], [0b01010011#8], [0b01010100#8], [0b01010101#8],
      [0b01010110#8], [0b01010111#8], [0b01011000#8], [0b01011001#8], [0b01011010#8], [0b01011011#8],
      [0b01011100#8], [0b01011101#8], [0b01011110#8], [0b01011111#8]]
    [
      .ld_d_b, .ld_d_c, .ld_d_d, .ld_d_e, .ld_d_h, .ld_d_l, .ld_d_mhl, .ld_d_a, .ld_e_b, .ld_e_c, .ld_e_d, .ld_e_e,
      .ld_e_h, .ld_e_l, .ld_e_mhl, .ld_e_a] = true := by
  decide

/-- 30_encoding.md R209, row 6x. -/
theorem test_decode_row_6x : decodesTo
    [
      [0b01100000#8], [0b01100001#8], [0b01100010#8], [0b01100011#8], [0b01100100#8], [0b01100101#8],
      [0b01100110#8], [0b01100111#8], [0b01101000#8], [0b01101001#8], [0b01101010#8], [0b01101011#8],
      [0b01101100#8], [0b01101101#8], [0b01101110#8], [0b01101111#8]]
    [
      .ld_h_b, .ld_h_c, .ld_h_d, .ld_h_e, .ld_h_h, .ld_h_l, .ld_h_mhl, .ld_h_a, .ld_l_b, .ld_l_c, .ld_l_d, .ld_l_e,
      .ld_l_h, .ld_l_l, .ld_l_mhl, .ld_l_a] = true := by
  decide

/-- 30_encoding.md R209, row 7x. -/
theorem test_decode_row_7x : decodesTo
    [
      [0b01110000#8], [0b01110001#8], [0b01110010#8], [0b01110011#8], [0b01110100#8], [0b01110101#8],
      [0b01110110#8], [0b01110111#8], [0b01111000#8], [0b01111001#8], [0b01111010#8], [0b01111011#8],
      [0b01111100#8], [0b01111101#8], [0b01111110#8], [0b01111111#8]]
    [
      .ld_mhl_b, .ld_mhl_c, .ld_mhl_d, .ld_mhl_e, .ld_mhl_h, .ld_mhl_l, .halt, .ld_mhl_a, .ld_a_b, .ld_a_c, .ld_a_d,
      .ld_a_e, .ld_a_h, .ld_a_l, .ld_a_mhl, .ld_a_a] = true := by
  decide

/-- 30_encoding.md R209, row 8x. -/
theorem test_decode_row_8x : decodesTo
    [
      [0b10000000#8], [0b10000001#8], [0b10000010#8], [0b10000011#8], [0b10000100#8], [0b10000101#8],
      [0b10000110#8], [0b10000111#8], [0b10001000#8], [0b10001001#8], [0b10001010#8], [0b10001011#8],
      [0b10001100#8], [0b10001101#8], [0b10001110#8], [0b10001111#8]]
    [
      .add_a_b, .add_a_c, .add_a_d, .add_a_e, .add_a_h, .add_a_l, .add_a_mhl, .add_a_a, .adc_a_b, .adc_a_c,
      .adc_a_d, .adc_a_e, .adc_a_h, .adc_a_l, .adc_a_mhl, .adc_a_a] = true := by
  decide

/-- 30_encoding.md R209, row 9x. -/
theorem test_decode_row_9x : decodesTo
    [
      [0b10010000#8], [0b10010001#8], [0b10010010#8], [0b10010011#8], [0b10010100#8], [0b10010101#8],
      [0b10010110#8], [0b10010111#8], [0b10011000#8], [0b10011001#8], [0b10011010#8], [0b10011011#8],
      [0b10011100#8], [0b10011101#8], [0b10011110#8], [0b10011111#8]]
    [
      .sub_b, .sub_c, .sub_d, .sub_e, .sub_h, .sub_l, .sub_mhl, .sub_a, .sbc_a_b, .sbc_a_c, .sbc_a_d, .sbc_a_e,
      .sbc_a_h, .sbc_a_l, .sbc_a_mhl, .sbc_a_a] = true := by
  decide

/-- 30_encoding.md R209, row Ax. -/
theorem test_decode_row_ax : decodesTo
    [
      [0b10100000#8], [0b10100001#8], [0b10100010#8], [0b10100011#8], [0b10100100#8], [0b10100101#8],
      [0b10100110#8], [0b10100111#8], [0b10101000#8], [0b10101001#8], [0b10101010#8], [0b10101011#8],
      [0b10101100#8], [0b10101101#8], [0b10101110#8], [0b10101111#8]]
    [
      .and_b, .and_c, .and_d, .and_e, .and_h, .and_l, .and_mhl, .and_a, .xor_b, .xor_c, .xor_d, .xor_e, .xor_h,
      .xor_l, .xor_mhl, .xor_a] = true := by
  decide

/-- 30_encoding.md R209, row Bx. -/
theorem test_decode_row_bx : decodesTo
    [
      [0b10110000#8], [0b10110001#8], [0b10110010#8], [0b10110011#8], [0b10110100#8], [0b10110101#8],
      [0b10110110#8], [0b10110111#8], [0b10111000#8], [0b10111001#8], [0b10111010#8], [0b10111011#8],
      [0b10111100#8], [0b10111101#8], [0b10111110#8], [0b10111111#8]]
    [
      .or_b, .or_c, .or_d, .or_e, .or_h, .or_l, .or_mhl, .or_a, .cp_b, .cp_c, .cp_d, .cp_e, .cp_h, .cp_l, .cp_mhl,
      .cp_a] = true := by
  decide

/-- 30_encoding.md R209, row Cx. -/
theorem test_decode_row_cx : decodesTo
    [
      [0b11000000#8], [0b11000001#8], [0b11000010#8, 0x34#8, 0x12#8], [0b11000011#8, 0x34#8, 0x12#8],
      [0b11000100#8, 0x34#8, 0x12#8], [0b11000101#8], [0b11000110#8, 0x34#8], [0b11000111#8], [0b11001000#8],
      [0b11001001#8], [0b11001010#8, 0x34#8, 0x12#8], [0b11001011#8, 0b00110111#8], [0b11001100#8, 0x34#8, 0x12#8],
      [0b11001101#8, 0x34#8, 0x12#8], [0b11001110#8, 0x34#8], [0b11001111#8]]
    [
      .ret_nz, .pop_bc, .jp_nz_a16 0x1234#16, .jp_a16 0x1234#16, .call_nz_a16 0x1234#16, .push_bc, .add_a_n8 0x34#8,
      .rst_00, .ret_z, .ret, .jp_z_a16 0x1234#16, .swap_a, .call_z_a16 0x1234#16, .call_a16 0x1234#16,
      .adc_a_n8 0x34#8, .rst_08] = true := by
  decide

/-- 30_encoding.md R209, row Dx. -/
theorem test_decode_row_dx : decodesTo
    [
      [0b11010000#8], [0b11010001#8], [0b11010010#8, 0x34#8, 0x12#8], [0b11010011#8],
      [0b11010100#8, 0x34#8, 0x12#8], [0b11010101#8], [0b11010110#8, 0x34#8], [0b11010111#8], [0b11011000#8],
      [0b11011001#8], [0b11011010#8, 0x34#8, 0x12#8], [0b11011011#8], [0b11011100#8, 0x34#8, 0x12#8],
      [0b11011101#8], [0b11011110#8, 0x34#8], [0b11011111#8]]
    [
      .ret_nc, .pop_de, .jp_nc_a16 0x1234#16, .illegal_d3, .call_nc_a16 0x1234#16, .push_de, .sub_n8 0x34#8,
      .rst_10, .ret_c, .reti, .jp_c_a16 0x1234#16, .illegal_db, .call_c_a16 0x1234#16, .illegal_dd,
      .sbc_a_n8 0x34#8, .rst_18] = true := by
  decide

/-- 30_encoding.md R209, row Ex. -/
theorem test_decode_row_ex : decodesTo
    [
      [0b11100000#8, 0x34#8], [0b11100001#8], [0b11100010#8], [0b11100011#8], [0b11100100#8], [0b11100101#8],
      [0b11100110#8, 0x34#8], [0b11100111#8], [0b11101000#8, 0x34#8], [0b11101001#8],
      [0b11101010#8, 0x34#8, 0x12#8], [0b11101011#8], [0b11101100#8], [0b11101101#8], [0b11101110#8, 0x34#8],
      [0b11101111#8]]
    [
      .ldh_ma8_a 0x34#8, .pop_hl, .ld_mc_a, .illegal_e3, .illegal_e4, .push_hl, .and_n8 0x34#8, .rst_20,
      .add_sp_e8 0x34#8, .jp_hl, .ld_ma16_a 0x1234#16, .illegal_eb, .illegal_ec, .illegal_ed, .xor_n8 0x34#8,
      .rst_28] = true := by
  decide

/-- 30_encoding.md R209, row Fx. -/
theorem test_decode_row_fx : decodesTo
    [
      [0b11110000#8, 0x34#8], [0b11110001#8], [0b11110010#8], [0b11110011#8], [0b11110100#8], [0b11110101#8],
      [0b11110110#8, 0x34#8], [0b11110111#8], [0b11111000#8, 0x34#8], [0b11111001#8],
      [0b11111010#8, 0x34#8, 0x12#8], [0b11111011#8], [0b11111100#8], [0b11111101#8], [0b11111110#8, 0x34#8],
      [0b11111111#8]]
    [
      .ldh_a_ma8 0x34#8, .pop_af, .ld_a_mc, .di, .illegal_f4, .push_af, .or_n8 0x34#8, .rst_30, .ld_hl_sp_e8 0x34#8,
      .ld_sp_hl, .ld_a_ma16 0x1234#16, .ei, .illegal_fc, .illegal_fd, .cp_n8 0x34#8, .rst_38] = true := by
  decide

/-- 30_encoding.md R210, row 0x. -/
theorem test_decode_cb_row_0x : decodesTo (afterPrefix
    [
      0b00000000#8, 0b00000001#8, 0b00000010#8, 0b00000011#8, 0b00000100#8, 0b00000101#8, 0b00000110#8,
      0b00000111#8, 0b00001000#8, 0b00001001#8, 0b00001010#8, 0b00001011#8, 0b00001100#8, 0b00001101#8,
      0b00001110#8, 0b00001111#8])
    [
      .rlc_b, .rlc_c, .rlc_d, .rlc_e, .rlc_h, .rlc_l, .rlc_mhl, .rlc_a, .rrc_b, .rrc_c, .rrc_d, .rrc_e, .rrc_h,
      .rrc_l, .rrc_mhl, .rrc_a] = true := by
  decide

/-- 30_encoding.md R210, row 1x. -/
theorem test_decode_cb_row_1x : decodesTo (afterPrefix
    [
      0b00010000#8, 0b00010001#8, 0b00010010#8, 0b00010011#8, 0b00010100#8, 0b00010101#8, 0b00010110#8,
      0b00010111#8, 0b00011000#8, 0b00011001#8, 0b00011010#8, 0b00011011#8, 0b00011100#8, 0b00011101#8,
      0b00011110#8, 0b00011111#8])
    [
      .rl_b, .rl_c, .rl_d, .rl_e, .rl_h, .rl_l, .rl_mhl, .rl_a, .rr_b, .rr_c, .rr_d, .rr_e, .rr_h, .rr_l, .rr_mhl,
      .rr_a] = true := by
  decide

/-- 30_encoding.md R210, row 2x. -/
theorem test_decode_cb_row_2x : decodesTo (afterPrefix
    [
      0b00100000#8, 0b00100001#8, 0b00100010#8, 0b00100011#8, 0b00100100#8, 0b00100101#8, 0b00100110#8,
      0b00100111#8, 0b00101000#8, 0b00101001#8, 0b00101010#8, 0b00101011#8, 0b00101100#8, 0b00101101#8,
      0b00101110#8, 0b00101111#8])
    [
      .sla_b, .sla_c, .sla_d, .sla_e, .sla_h, .sla_l, .sla_mhl, .sla_a, .sra_b, .sra_c, .sra_d, .sra_e, .sra_h,
      .sra_l, .sra_mhl, .sra_a] = true := by
  decide

/-- 30_encoding.md R210, row 3x. -/
theorem test_decode_cb_row_3x : decodesTo (afterPrefix
    [
      0b00110000#8, 0b00110001#8, 0b00110010#8, 0b00110011#8, 0b00110100#8, 0b00110101#8, 0b00110110#8,
      0b00110111#8, 0b00111000#8, 0b00111001#8, 0b00111010#8, 0b00111011#8, 0b00111100#8, 0b00111101#8,
      0b00111110#8, 0b00111111#8])
    [
      .swap_b, .swap_c, .swap_d, .swap_e, .swap_h, .swap_l, .swap_mhl, .swap_a, .srl_b, .srl_c, .srl_d, .srl_e,
      .srl_h, .srl_l, .srl_mhl, .srl_a] = true := by
  decide

/-- 30_encoding.md R210, row 4x. -/
theorem test_decode_cb_row_4x : decodesTo (afterPrefix
    [
      0b01000000#8, 0b01000001#8, 0b01000010#8, 0b01000011#8, 0b01000100#8, 0b01000101#8, 0b01000110#8,
      0b01000111#8, 0b01001000#8, 0b01001001#8, 0b01001010#8, 0b01001011#8, 0b01001100#8, 0b01001101#8,
      0b01001110#8, 0b01001111#8])
    [
      .bit_0_b, .bit_0_c, .bit_0_d, .bit_0_e, .bit_0_h, .bit_0_l, .bit_0_mhl, .bit_0_a, .bit_1_b, .bit_1_c,
      .bit_1_d, .bit_1_e, .bit_1_h, .bit_1_l, .bit_1_mhl, .bit_1_a] = true := by
  decide

/-- 30_encoding.md R210, row 5x. -/
theorem test_decode_cb_row_5x : decodesTo (afterPrefix
    [
      0b01010000#8, 0b01010001#8, 0b01010010#8, 0b01010011#8, 0b01010100#8, 0b01010101#8, 0b01010110#8,
      0b01010111#8, 0b01011000#8, 0b01011001#8, 0b01011010#8, 0b01011011#8, 0b01011100#8, 0b01011101#8,
      0b01011110#8, 0b01011111#8])
    [
      .bit_2_b, .bit_2_c, .bit_2_d, .bit_2_e, .bit_2_h, .bit_2_l, .bit_2_mhl, .bit_2_a, .bit_3_b, .bit_3_c,
      .bit_3_d, .bit_3_e, .bit_3_h, .bit_3_l, .bit_3_mhl, .bit_3_a] = true := by
  decide

/-- 30_encoding.md R210, row 6x. -/
theorem test_decode_cb_row_6x : decodesTo (afterPrefix
    [
      0b01100000#8, 0b01100001#8, 0b01100010#8, 0b01100011#8, 0b01100100#8, 0b01100101#8, 0b01100110#8,
      0b01100111#8, 0b01101000#8, 0b01101001#8, 0b01101010#8, 0b01101011#8, 0b01101100#8, 0b01101101#8,
      0b01101110#8, 0b01101111#8])
    [
      .bit_4_b, .bit_4_c, .bit_4_d, .bit_4_e, .bit_4_h, .bit_4_l, .bit_4_mhl, .bit_4_a, .bit_5_b, .bit_5_c,
      .bit_5_d, .bit_5_e, .bit_5_h, .bit_5_l, .bit_5_mhl, .bit_5_a] = true := by
  decide

/-- 30_encoding.md R210, row 7x. -/
theorem test_decode_cb_row_7x : decodesTo (afterPrefix
    [
      0b01110000#8, 0b01110001#8, 0b01110010#8, 0b01110011#8, 0b01110100#8, 0b01110101#8, 0b01110110#8,
      0b01110111#8, 0b01111000#8, 0b01111001#8, 0b01111010#8, 0b01111011#8, 0b01111100#8, 0b01111101#8,
      0b01111110#8, 0b01111111#8])
    [
      .bit_6_b, .bit_6_c, .bit_6_d, .bit_6_e, .bit_6_h, .bit_6_l, .bit_6_mhl, .bit_6_a, .bit_7_b, .bit_7_c,
      .bit_7_d, .bit_7_e, .bit_7_h, .bit_7_l, .bit_7_mhl, .bit_7_a] = true := by
  decide

/-- 30_encoding.md R210, row 8x. -/
theorem test_decode_cb_row_8x : decodesTo (afterPrefix
    [
      0b10000000#8, 0b10000001#8, 0b10000010#8, 0b10000011#8, 0b10000100#8, 0b10000101#8, 0b10000110#8,
      0b10000111#8, 0b10001000#8, 0b10001001#8, 0b10001010#8, 0b10001011#8, 0b10001100#8, 0b10001101#8,
      0b10001110#8, 0b10001111#8])
    [
      .res_0_b, .res_0_c, .res_0_d, .res_0_e, .res_0_h, .res_0_l, .res_0_mhl, .res_0_a, .res_1_b, .res_1_c,
      .res_1_d, .res_1_e, .res_1_h, .res_1_l, .res_1_mhl, .res_1_a] = true := by
  decide

/-- 30_encoding.md R210, row 9x. -/
theorem test_decode_cb_row_9x : decodesTo (afterPrefix
    [
      0b10010000#8, 0b10010001#8, 0b10010010#8, 0b10010011#8, 0b10010100#8, 0b10010101#8, 0b10010110#8,
      0b10010111#8, 0b10011000#8, 0b10011001#8, 0b10011010#8, 0b10011011#8, 0b10011100#8, 0b10011101#8,
      0b10011110#8, 0b10011111#8])
    [
      .res_2_b, .res_2_c, .res_2_d, .res_2_e, .res_2_h, .res_2_l, .res_2_mhl, .res_2_a, .res_3_b, .res_3_c,
      .res_3_d, .res_3_e, .res_3_h, .res_3_l, .res_3_mhl, .res_3_a] = true := by
  decide

/-- 30_encoding.md R210, row Ax. -/
theorem test_decode_cb_row_ax : decodesTo (afterPrefix
    [
      0b10100000#8, 0b10100001#8, 0b10100010#8, 0b10100011#8, 0b10100100#8, 0b10100101#8, 0b10100110#8,
      0b10100111#8, 0b10101000#8, 0b10101001#8, 0b10101010#8, 0b10101011#8, 0b10101100#8, 0b10101101#8,
      0b10101110#8, 0b10101111#8])
    [
      .res_4_b, .res_4_c, .res_4_d, .res_4_e, .res_4_h, .res_4_l, .res_4_mhl, .res_4_a, .res_5_b, .res_5_c,
      .res_5_d, .res_5_e, .res_5_h, .res_5_l, .res_5_mhl, .res_5_a] = true := by
  decide

/-- 30_encoding.md R210, row Bx. -/
theorem test_decode_cb_row_bx : decodesTo (afterPrefix
    [
      0b10110000#8, 0b10110001#8, 0b10110010#8, 0b10110011#8, 0b10110100#8, 0b10110101#8, 0b10110110#8,
      0b10110111#8, 0b10111000#8, 0b10111001#8, 0b10111010#8, 0b10111011#8, 0b10111100#8, 0b10111101#8,
      0b10111110#8, 0b10111111#8])
    [
      .res_6_b, .res_6_c, .res_6_d, .res_6_e, .res_6_h, .res_6_l, .res_6_mhl, .res_6_a, .res_7_b, .res_7_c,
      .res_7_d, .res_7_e, .res_7_h, .res_7_l, .res_7_mhl, .res_7_a] = true := by
  decide

/-- 30_encoding.md R210, row Cx. -/
theorem test_decode_cb_row_cx : decodesTo (afterPrefix
    [
      0b11000000#8, 0b11000001#8, 0b11000010#8, 0b11000011#8, 0b11000100#8, 0b11000101#8, 0b11000110#8,
      0b11000111#8, 0b11001000#8, 0b11001001#8, 0b11001010#8, 0b11001011#8, 0b11001100#8, 0b11001101#8,
      0b11001110#8, 0b11001111#8])
    [
      .set_0_b, .set_0_c, .set_0_d, .set_0_e, .set_0_h, .set_0_l, .set_0_mhl, .set_0_a, .set_1_b, .set_1_c,
      .set_1_d, .set_1_e, .set_1_h, .set_1_l, .set_1_mhl, .set_1_a] = true := by
  decide

/-- 30_encoding.md R210, row Dx. -/
theorem test_decode_cb_row_dx : decodesTo (afterPrefix
    [
      0b11010000#8, 0b11010001#8, 0b11010010#8, 0b11010011#8, 0b11010100#8, 0b11010101#8, 0b11010110#8,
      0b11010111#8, 0b11011000#8, 0b11011001#8, 0b11011010#8, 0b11011011#8, 0b11011100#8, 0b11011101#8,
      0b11011110#8, 0b11011111#8])
    [
      .set_2_b, .set_2_c, .set_2_d, .set_2_e, .set_2_h, .set_2_l, .set_2_mhl, .set_2_a, .set_3_b, .set_3_c,
      .set_3_d, .set_3_e, .set_3_h, .set_3_l, .set_3_mhl, .set_3_a] = true := by
  decide

/-- 30_encoding.md R210, row Ex. -/
theorem test_decode_cb_row_ex : decodesTo (afterPrefix
    [
      0b11100000#8, 0b11100001#8, 0b11100010#8, 0b11100011#8, 0b11100100#8, 0b11100101#8, 0b11100110#8,
      0b11100111#8, 0b11101000#8, 0b11101001#8, 0b11101010#8, 0b11101011#8, 0b11101100#8, 0b11101101#8,
      0b11101110#8, 0b11101111#8])
    [
      .set_4_b, .set_4_c, .set_4_d, .set_4_e, .set_4_h, .set_4_l, .set_4_mhl, .set_4_a, .set_5_b, .set_5_c,
      .set_5_d, .set_5_e, .set_5_h, .set_5_l, .set_5_mhl, .set_5_a] = true := by
  decide

/-- 30_encoding.md R210, row Fx. -/
theorem test_decode_cb_row_fx : decodesTo (afterPrefix
    [
      0b11110000#8, 0b11110001#8, 0b11110010#8, 0b11110011#8, 0b11110100#8, 0b11110101#8, 0b11110110#8,
      0b11110111#8, 0b11111000#8, 0b11111001#8, 0b11111010#8, 0b11111011#8, 0b11111100#8, 0b11111101#8,
      0b11111110#8, 0b11111111#8])
    [
      .set_6_b, .set_6_c, .set_6_d, .set_6_e, .set_6_h, .set_6_l, .set_6_mhl, .set_6_a, .set_7_b, .set_7_c,
      .set_7_d, .set_7_e, .set_7_h, .set_7_l, .set_7_mhl, .set_7_a] = true := by
  decide

/-! ### 8-bit loads (95_test_vectors.md 2.1) -/

/-- L1, L2. -/
theorem test_ld_register : check [0x41#8] (cpu fun g => { g with bc := 0x1234#16 })
      (fun t => t.regs.bc == 0x3434#16 && t.cyclesRemaining == 4) = true ∧
    check [0x3E#8, 0x7F#8] State.reset (fun t => t.r8 .a == 0x7F#8 && t.cyclesRemaining == 8) = true := by decide

/-- L3, and the corner case of R233: `LD H,(HL)` reads with the old HL. -/
theorem test_ld_from_hl :
    check [0x7E#8] (holding 0xC010#16 0x99#8 (cpu fun g => { g with hl := 0xC010#16 }))
      (fun t => t.r8 .a == 0x99#8 && t.cyclesRemaining == 8) = true ∧
    check [0x66#8] (holding 0xC010#16 0x99#8 (cpu fun g => { g with hl := 0xC010#16 }))
      (fun t => t.regs.hl == 0x9910#16) = true := by decide

/-- L4, L5. -/
theorem test_ld_to_hl :
    check [0x73#8] (cpu fun g => { g with hl := 0xC010#16, de := 0x0042#16 })
      (fun t => t.busRead 0xC010#16 == some 0x42#8 && t.cyclesRemaining == 8) = true ∧
    check [0x36#8, 0xAA#8] (cpu fun g => { g with hl := 0xC010#16 })
      (fun t => t.busRead 0xC010#16 == some 0xAA#8 && t.cyclesRemaining == 12) = true := by decide

/-- L8, L9: HL moves and wraps, flags stay. -/
theorem test_ld_increment :
    check [0x2A#8] { cpu fun g => { g with hl := 0xFFFF#16 } with ie := 0x1F#8 }
      (fun t => t.r8 .a == 0x1F#8 && t.regs.hl == 0#16) = true ∧
    check [0x22#8] (cpu fun g => { g with hl := 0xC0FF#16, af := 0x01F0#16 })
      (fun t => t.busRead 0xC0FF#16 == some 0x01#8 && t.regs.hl == 0xC100#16 && t.f == 0xF0#8) = true := by decide

/-- L7 and the example of R243. -/
theorem test_ld_decrement :
    check [0x32#8] (cpu fun g => { g with hl := 0xC000#16, af := 0x1200#16 })
      (fun t => t.busRead 0xC000#16 == some 0x12#8 && t.regs.hl == 0xBFFF#16) = true ∧
    check [0x3A#8] (holding 0xC001#16 0x10#8 (cpu fun g => { g with hl := 0xC001#16 }))
      (fun t => t.r8 .a == 0x10#8 && t.regs.hl == 0xC000#16) = true := by decide

/-- L6, and the example of R239: a store to echo RAM lands in WRAM. -/
theorem test_ld_pairs :
    check [0x0A#8] (holding 0xC000#16 0x5C#8 (cpu fun g => { g with bc := 0xC000#16 })) (fun t => t.r8 .a == 0x5C#8) = true ∧
    check [0x12#8] (cpu fun g => { g with de := 0xE000#16, af := 0x0100#16 })
      (fun t => t.busRead 0xC000#16 == some 0x01#8) = true := by decide

/-- L10, L15, L16, L19: memory, blocked OAM, the hole, echo RAM. -/
theorem test_ld_absolute :
    check [0xFA#8, 0x00#8, 0xC1#8] (holding 0xC100#16 0x77#8 State.reset)
      (fun t => t.r8 .a == 0x77#8 && t.cyclesRemaining == 16) = true ∧
    check [0xFA#8, 0x00#8, 0xFE#8] State.reset (fun t => t.r8 .a == 0xFF#8) = true ∧
    check [0xFA#8, 0x75#8, 0xFF#8] (cpu fun g => { g with af := 0x1100#16 })
      (fun t => t.r8 .a == 0x11#8 && t.runState == .faulted .busOutOfRange 0xFF75#16) = true ∧
    check [0xFA#8, 0x23#8, 0xE1#8] (holding 0xC123#16 0x4D#8 State.reset) (fun t => t.r8 .a == 0x4D#8) = true := by decide

/-- L11, L12, L13, L14: the high page. -/
theorem test_ld_high_page :
    check [0xE0#8, 0x40#8] (cpu fun g => { g with af := 0x9100#16 })
      (fun t => t.ppu.lcdc == 0x91#8 && t.cyclesRemaining == 12) = true ∧
    check [0xF0#8, 0x44#8] { State.reset with ppu := { Ppu.reset with ly := 0x90#8 } } (fun t => t.r8 .a == 0x90#8) = true ∧
    check [0xE2#8] (cpu fun g => { g with bc := 0x0080#16, af := 0x5500#16 })
      (fun t => t.busRead 0xFF80#16 == some 0x55#8 && t.cyclesRemaining == 8) = true ∧
    check [0xF2#8] (cpu fun g => { g with bc := 0x000F#16 }) (fun t => t.r8 .a == 0xE1#8) = true := by decide

/-! ### 16-bit loads and the stack (2.2) -/

/-- S2, S3, S4. -/
theorem test_ld_words :
    check [0x21#8, 0x34#8, 0x12#8] State.reset (fun t => t.regs.hl == 0x1234#16 && t.cyclesRemaining == 12) = true ∧
    check [0x08#8, 0x00#8, 0xC1#8] (cpu fun g => { g with sp := 0xFFF8#16 })
      (fun t => t.busRead 0xC100#16 == some 0xF8#8 && t.busRead 0xC101#16 == some 0xFF#8 && t.cyclesRemaining == 20) = true ∧
    check [0xF9#8] (cpu fun g => { g with hl := 0xD000#16 }) (fun t => t.regs.sp == 0xD000#16 && t.cyclesRemaining == 8) = true := by
  decide

/-- S5, S6, S7: H and C come from the unsigned low parts. -/
theorem test_ld_hl_sp :
    check [0xF8#8, 0x08#8] (cpu fun g => { g with sp := 0xFFF8#16 })
      (fun t => t.regs.hl == 0#16 && t.f == 0x30#8 && t.cyclesRemaining == 12) = true ∧
    check [0xF8#8, 0xFF#8] (cpu fun g => { g with sp := 0x0001#16 }) (fun t => t.regs.hl == 0#16 && t.f == 0x30#8) = true ∧
    check [0xF8#8, 0x80#8] (cpu fun g => { g with sp := 0x1000#16 })
      (fun t => t.regs.hl == 0x0F80#16 && t.f == 0x00#8) = true := by decide

/-- S8, S13. -/
theorem test_push :
    check [0xC5#8] (cpu fun g => { g with bc := 0x1234#16 })
      (fun t => t.busRead 0xFFFD#16 == some 0x12#8 && t.busRead 0xFFFC#16 == some 0x34#8 && t.regs.sp == 0xFFFC#16 &&
        t.cyclesRemaining == 16) = true ∧
    check [0xF5#8] (cpu fun g => { g with af := 0x12F0#16 })
      (fun t => t.busRead 0xFFFD#16 == some 0x12#8 && t.busRead 0xFFFC#16 == some 0xF0#8) = true := by decide

/-- S9, S12: F's low nibble is masked; a pop across 0xFFFF reads IE, then ROM. -/
theorem test_pop :
    check [0xF1#8] (holding 0xFFFC#16 0xFF#8 (holding 0xFFFD#16 0x12#8 (cpu fun g => { g with sp := 0xFFFC#16 })))
      (fun t => af t == (0x12#8, 0xF0#8) && t.regs.sp == 0xFFFE#16 && t.cyclesRemaining == 12) = true ∧
    check [0xC1#8] { cpu fun g => { g with sp := 0xFFFF#16 } with ie := 0xAB#8 }
      (fun t => t.regs.bc == 0x00AB#16 && t.regs.sp == 0x0001#16) = true := by decide

/-! ### 8-bit arithmetic (2.3) -/

/-- A1, A2, A4, A5. -/
theorem test_add_adc :
    check [0x80#8] (cpu fun g => { g with af := 0x3A00#16, bc := 0xC600#16 })
      (fun t => af t == (0x00#8, 0xB0#8) && t.cyclesRemaining == 4) = true ∧
    check [0xC6#8, 0xFF#8] (cpu fun g => { g with af := 0x3C00#16 })
      (fun t => af t == (0x3B#8, 0x30#8) && t.cyclesRemaining == 8) = true ∧
    check [0xCE#8, 0x0F#8] (cpu fun g => { g with af := 0xE110#16 }) (fun t => af t == (0xF1#8, 0x20#8)) = true ∧
    check [0x88#8] (cpu fun g => { g with af := 0xFF10#16 }) (fun t => af t == (0x00#8, 0xB0#8)) = true := by decide

/-- A7, A8, A9, A10. -/
theorem test_sub_sbc :
    check [0xD6#8, 0x0F#8] (cpu fun g => { g with af := 0x3E00#16 }) (fun t => af t == (0x2F#8, 0x60#8)) = true ∧
    check [0xD6#8, 0x40#8] (cpu fun g => { g with af := 0x3E00#16 }) (fun t => af t == (0xFE#8, 0x50#8)) = true ∧
    check [0xDE#8, 0x2A#8] (cpu fun g => { g with af := 0x3B10#16 }) (fun t => af t == (0x10#8, 0x40#8)) = true ∧
    check [0x98#8] (cpu fun g => { g with af := 0x0010#16 }) (fun t => af t == (0xFF#8, 0x70#8)) = true := by decide

/-- A3 and the examples of R285, R288 and R291: the byte at HL. -/
theorem test_alu_memory :
    check [0x86#8] (holding 0xC000#16 0x12#8 (cpu fun g => { g with af := 0x3C00#16, hl := 0xC000#16 }))
      (fun t => af t == (0x4E#8, 0x00#8) && t.cyclesRemaining == 8) = true ∧
    check [0x8E#8] (holding 0xC000#16 0x1E#8 (cpu fun g => { g with af := 0xE110#16, hl := 0xC000#16 }))
      (fun t => af t == (0x00#8, 0xB0#8)) = true ∧
    check [0x96#8] (holding 0xC000#16 0x40#8 (cpu fun g => { g with af := 0x3E00#16, hl := 0xC000#16 }))
      (fun t => af t == (0xFE#8, 0x50#8)) = true ∧
    check [0x9E#8] (holding 0xC000#16 0x4F#8 (cpu fun g => { g with af := 0x3B10#16, hl := 0xC000#16 }))
      (fun t => af t == (0xEB#8, 0x70#8)) = true := by decide

/-- A11, A13, A14, A15. -/
theorem test_logic_and_compare :
    check [0xA5#8] (cpu fun g => { g with af := 0x5A00#16, hl := 0x003F#16 }) (fun t => af t == (0x1A#8, 0x20#8)) = true ∧
    check [0xAF#8] (cpu fun g => { g with af := 0xFF10#16 }) (fun t => af t == (0x00#8, 0x80#8)) = true ∧
    check [0xF6#8, 0x0F#8] (cpu fun g => { g with af := 0x5A00#16 }) (fun t => af t == (0x5F#8, 0x00#8)) = true ∧
    check [0xB8#8] (cpu fun g => { g with af := 0x3C00#16, bc := 0x2F00#16 }) (fun t => af t == (0x3C#8, 0x60#8)) = true := by
  decide

/-- V-S1, A18: INC keeps C. -/
theorem test_inc_register :
    check [0x04#8] (cpu fun g => { g with bc := 0x0F00#16 }) (fun t => t.regs.bc == 0x1000#16 && t.f == 0x20#8) = true ∧
    check [0x04#8] (cpu fun g => { g with bc := 0xFF00#16 }) (fun t => t.regs.bc == 0x0000#16 && t.f == 0xA0#8) = true ∧
    check [0x3C#8] (cpu fun g => { g with af := 0xFF10#16 }) (fun t => af t == (0x00#8, 0xB0#8)) = true := by decide

/-- A19, A20, A21, A22. -/
theorem test_inc_dec :
    check [0x34#8] (holding 0xC000#16 0x50#8 (cpu fun g => { g with hl := 0xC000#16 }))
      (fun t => t.busRead 0xC000#16 == some 0x51#8 && t.f == 0x00#8 && t.cyclesRemaining == 12) = true ∧
    check [0x05#8] (cpu fun g => { g with bc := 0x0100#16 }) (fun t => t.regs.bc == 0x0000#16 && t.f == 0xC0#8) = true ∧
    check [0x05#8] (cpu fun g => { g with bc := 0x0000#16 }) (fun t => t.regs.bc == 0xFF00#16 && t.f == 0x60#8) = true ∧
    check [0x35#8] (holding 0xC000#16 0x10#8 (cpu fun g => { g with hl := 0xC000#16 }))
      (fun t => t.busRead 0xC000#16 == some 0x0F#8 && t.f == 0x60#8) = true := by decide

/-- A23, A24, A25, A26. -/
theorem test_daa :
    check [0x27#8] (cpu fun g => { g with af := 0x7D00#16 }) (fun t => af t == (0x83#8, 0x00#8)) = true ∧
    check [0x27#8] (cpu fun g => { g with af := 0x9A00#16 }) (fun t => af t == (0x00#8, 0x90#8)) = true ∧
    check [0x27#8] (cpu fun g => { g with af := 0x0070#16 }) (fun t => af t == (0x9A#8, 0x50#8)) = true ∧
    check [0x27#8] (cpu fun g => { g with af := 0x0F60#16 }) (fun t => af t == (0x09#8, 0x40#8)) = true := by decide

/-- A27, A28, A29, A30. -/
theorem test_cpl_scf_ccf :
    check [0x2F#8] (cpu fun g => { g with af := 0x3500#16 }) (fun t => af t == (0xCA#8, 0x60#8)) = true ∧
    check [0x37#8] (cpu fun g => { g with af := 0x00E0#16 }) (fun t => t.f == 0x90#8) = true ∧
    check [0x3F#8] (cpu fun g => { g with af := 0x0010#16 }) (fun t => t.f == 0x00#8) = true ∧
    check [0x3F#8] (cpu fun g => { g with af := 0x0080#16 }) (fun t => t.f == 0x90#8) = true := by decide

/-! ### 16-bit arithmetic (2.4) -/

/-- W1, W2. -/
theorem test_inc_dec_word :
    check [0x03#8] (cpu fun g => { g with bc := 0xFFFF#16 })
      (fun t => t.regs.bc == 0#16 && t.f == 0x00#8 && t.cyclesRemaining == 8) = true ∧
    check [0x3B#8] (cpu fun g => { g with sp := 0#16 }) (fun t => t.regs.sp == 0xFFFF#16) = true := by decide

/-- W3, W4, W5. -/
theorem test_add_hl :
    check [0x09#8] (cpu fun g => { g with af := 0x0080#16, hl := 0x8A23#16, bc := 0x0605#16 })
      (fun t => t.regs.hl == 0x9028#16 && t.f == 0xA0#8 && t.cyclesRemaining == 8) = true ∧
    check [0x29#8] (cpu fun g => { g with hl := 0x8A23#16 }) (fun t => t.regs.hl == 0x1446#16 && t.f == 0x30#8) = true ∧
    check [0x39#8] (cpu fun g => { g with hl := 0xFFFF#16, sp := 0x0001#16 })
      (fun t => t.regs.hl == 0#16 && t.f == 0x30#8) = true := by decide

/-- W7, W8, W9. -/
theorem test_add_sp :
    check [0xE8#8, 0x01#8] (cpu fun g => { g with sp := 0x000F#16 })
      (fun t => t.regs.sp == 0x0010#16 && t.f == 0x20#8 && t.cyclesRemaining == 16) = true ∧
    check [0xE8#8, 0x01#8] (cpu fun g => { g with sp := 0x00FF#16 }) (fun t => t.regs.sp == 0x0100#16 && t.f == 0x30#8) = true ∧
    check [0xE8#8, 0xFF#8] (cpu fun g => { g with sp := 0#16 }) (fun t => t.regs.sp == 0xFFFF#16 && t.f == 0x00#8) = true := by
  decide

/-! ### Rotates, shifts and bits (2.5) -/

/-- B1 to B5. -/
theorem test_rotate_a :
    check [0x07#8] (cpu fun g => { g with af := 0x8500#16 }) (fun t => af t == (0x0B#8, 0x10#8) && t.cyclesRemaining == 4) = true ∧
    check [0x07#8] (cpu fun g => { g with af := 0x0000#16 }) (fun t => af t == (0x00#8, 0x00#8)) = true ∧
    check [0x0F#8] (cpu fun g => { g with af := 0x3B00#16 }) (fun t => af t == (0x9D#8, 0x10#8)) = true ∧
    check [0x17#8] (cpu fun g => { g with af := 0x9510#16 }) (fun t => af t == (0x2B#8, 0x10#8)) = true ∧
    check [0x1F#8] (cpu fun g => { g with af := 0x8100#16 }) (fun t => af t == (0x40#8, 0x10#8)) = true := by decide

/-- B6 to B10. -/
theorem test_rotate_prefixed :
    check [0xCB#8, 0x00#8] (cpu fun g => { g with bc := 0x8500#16 })
      (fun t => t.regs.bc == 0x0B00#16 && t.f == 0x10#8 && t.cyclesRemaining == 8) = true ∧
    check [0xCB#8, 0x06#8] (cpu fun g => { g with hl := 0xC000#16 })
      (fun t => t.busRead 0xC000#16 == some 0#8 && t.f == 0x80#8 && t.cyclesRemaining == 16) = true ∧
    check [0xCB#8, 0x09#8] (cpu fun g => { g with bc := 0x0001#16 })
      (fun t => t.regs.bc == 0x0080#16 && t.f == 0x10#8) = true ∧
    check [0xCB#8, 0x15#8] (cpu fun g => { g with hl := 0x0080#16 }) (fun t => t.regs.hl == 0#16 && t.f == 0x90#8) = true ∧
    check [0xCB#8, 0x1F#8] (cpu fun g => { g with af := 0x0100#16 }) (fun t => af t == (0x00#8, 0x90#8)) = true := by decide

/-- B11, B12, B14, B15, B16. -/
theorem test_shift_swap :
    check [0xCB#8, 0x22#8] (cpu fun g => { g with de := 0x8000#16 }) (fun t => t.regs.de == 0#16 && t.f == 0x90#8) = true ∧
    check [0xCB#8, 0x2F#8] (cpu fun g => { g with af := 0x8A00#16 }) (fun t => af t == (0xC5#8, 0x00#8)) = true ∧
    check [0xCB#8, 0x37#8] (cpu fun g => { g with af := 0xF010#16 }) (fun t => af t == (0x0F#8, 0x00#8)) = true ∧
    check [0xCB#8, 0x37#8] (cpu fun g => { g with af := 0x0000#16 }) (fun t => af t == (0x00#8, 0x80#8)) = true ∧
    check [0xCB#8, 0x3F#8] (cpu fun g => { g with af := 0xFF00#16 }) (fun t => af t == (0x7F#8, 0x10#8)) = true := by decide

/-- B18, B20, B21, B22. -/
theorem test_bit_res_set :
    check [0xCB#8, 0x7C#8] (cpu fun g => { g with hl := 0x8000#16, af := 0x0010#16 }) (fun t => t.f == 0x30#8) = true ∧
    check [0xCB#8, 0x46#8] (holding 0xC000#16 0xFE#8 (cpu fun g => { g with hl := 0xC000#16 }))
      (fun t => t.f == 0xA0#8 && t.busRead 0xC000#16 == some 0xFE#8 && t.cyclesRemaining == 12) = true ∧
    check [0xCB#8, 0xBF#8] (cpu fun g => { g with af := 0x80F0#16 }) (fun t => af t == (0x00#8, 0xF0#8)) = true ∧
    check [0xCB#8, 0xDE#8] (cpu fun g => { g with hl := 0xC000#16 })
      (fun t => t.busRead 0xC000#16 == some 0x08#8 && t.cyclesRemaining == 16) = true := by decide

/-! ### Control transfer (2.6); PC is already past the instruction -/

/-- J1, J2, J3, J4. -/
theorem test_jp :
    check [0xC3#8, 0x00#8, 0x80#8] (cpu fun g => { g with pc := 0x0153#16 })
      (fun t => t.regs.pc == 0x8000#16 && t.cyclesRemaining == 16) = true ∧
    check [0xC2#8, 0x00#8, 0x02#8] (cpu fun g => { g with pc := 0x0153#16, af := 0x0080#16 })
      (fun t => t.regs.pc == 0x0153#16 && t.cyclesRemaining == 12) = true ∧
    check [0xC2#8, 0x00#8, 0x02#8] (cpu fun g => { g with pc := 0x0153#16 })
      (fun t => t.regs.pc == 0x0200#16 && t.cyclesRemaining == 16) = true ∧
    check [0xE9#8] (cpu fun g => { g with hl := 0xC000#16 }) (fun t => t.regs.pc == 0xC000#16 && t.cyclesRemaining == 4) = true := by
  decide

/-- J6, J7, J9, J10. -/
theorem test_jr :
    check [0x18#8, 0x80#8] (cpu fun g => { g with pc := 0x0152#16 })
      (fun t => t.regs.pc == 0x00D2#16 && t.cyclesRemaining == 12) = true ∧
    check [0x18#8, 0x7F#8] (cpu fun g => { g with pc := 0x0152#16 }) (fun t => t.regs.pc == 0x01D1#16) = true ∧
    check [0x28#8, 0x10#8] (cpu fun g => { g with pc := 0x0152#16 })
      (fun t => t.regs.pc == 0x0152#16 && t.cyclesRemaining == 8) = true ∧
    check [0x38#8, 0x10#8] (cpu fun g => { g with pc := 0x0152#16, af := 0x0010#16 })
      (fun t => t.regs.pc == 0x0162#16 && t.cyclesRemaining == 12) = true := by decide

/-- J11, J12, J16. -/
theorem test_call_rst :
    check [0xCD#8, 0x34#8, 0x12#8] (cpu fun g => { g with pc := 0x0153#16 })
      (fun t => t.busRead 0xFFFD#16 == some 0x01#8 && t.busRead 0xFFFC#16 == some 0x53#8 && t.regs.sp == 0xFFFC#16 &&
        t.regs.pc == 0x1234#16 && t.cyclesRemaining == 24) = true ∧
    check [0xC4#8, 0x34#8, 0x12#8] (cpu fun g => { g with pc := 0x0153#16, af := 0x0080#16 })
      (fun t => t.regs.pc == 0x0153#16 && t.regs.sp == 0xFFFE#16 && t.cyclesRemaining == 12) = true ∧
    check [0xEF#8] (cpu fun g => { g with pc := 0x0201#16 })
      (fun t => t.busRead 0xFFFD#16 == some 0x02#8 && t.busRead 0xFFFC#16 == some 0x01#8 && t.regs.pc == 0x0028#16 &&
        t.cyclesRemaining == 16) = true := by decide

/-- A state whose stack holds the return address 0x0153 at 0xFFFC. -/
def returning (f : Byte) : State :=
  holding 0xFFFC#16 0x53#8 (holding 0xFFFD#16 0x01#8 (cpu fun g => { g with sp := 0xFFFC#16, af := 0x00#8 ++ f }))

/-- J13, J14, J15, J17. -/
theorem test_ret :
    check [0xC9#8] (returning 0x00#8) (fun t => t.regs.pc == 0x0153#16 && t.regs.sp == 0xFFFE#16 && t.cyclesRemaining == 16) = true ∧
    check [0xD8#8] (returning 0x10#8) (fun t => t.regs.pc == 0x0153#16 && t.cyclesRemaining == 20) = true ∧
    check [0xD8#8] (returning 0x00#8) (fun t => t.regs.sp == 0xFFFC#16 && t.cyclesRemaining == 8) = true ∧
    check [0xD9#8] (returning 0x00#8)
      (fun t => t.regs.pc == 0x0153#16 && t.ime == true && t.pendingEI == .none && t.cyclesRemaining == 16) = true := by decide

/-! ### System and interrupts (2.7, 3.1) -/

/-- Y5, Y6, Y10: STOP, DI, an illegal opcode. -/
theorem test_stop_di_illegal :
    check [0x10#8, 0x00#8] State.reset (fun t => t.runState == .stopped && t.cyclesRemaining == 4) = true ∧
    check [0xF3#8] { State.reset with ime := true } (fun t => t.ime == false && t.pendingEI == .none) = true ∧
    check [0xD3#8] (cpu fun g => { g with pc := 0x0151#16 })
      (fun t => t.runState == .locked 0xD3#8 0x0151#16 && t.cyclesRemaining == 0) = true := by decide

/-- Y7: after EI's own transition PendingEI is EnableNextTick. -/
theorem test_ei : (nextOf (afterInstr (exec .ei State.reset))).any
    (fun t => t.ime == false && t.pendingEI == .enableNextTick) = true := by decide

/-- Y2: a Halted CPU with IME = 0 wakes and runs the next instruction, here a NOP. -/
theorem test_halt_wakes : (nextOf (State.dispatch { State.reset with runState := .halted, ie := 0x04#8, ifr := 0x04#5 })).any
    (fun t => t.runState == .running && t.regs.pc == 0x0101#16 && t.ifr == 0x04#5) = true := by decide

/-- Y3: with nothing pending it idles one machine cycle. -/
theorem test_halt_idles : (nextOf (State.dispatch { State.reset with runState := .halted, ime := true, ie := 0x01#8, ifr := 0#5 })).any
    (fun t => t.runState == .halted && t.cyclesRemaining == 4 && t.regs.pc == 0x0100#16) = true := by decide

/-- I1: the timer is taken before the joypad. -/
theorem test_interrupt : (nextOf (State.dispatch
      { cpu fun g => { g with pc := 0x1234#16, sp := 0xD000#16 } with ime := true, ie := 0x1F#8, ifr := 0x14#5 })).any
    (fun t => t.ifr == 0x10#5 && t.ime == false && t.busRead 0xCFFF#16 == some 0x12#8 && t.busRead 0xCFFE#16 == some 0x34#8 &&
      t.regs.sp == 0xCFFE#16 && t.regs.pc == 0x0050#16 && t.cyclesRemaining == 20) = true := by decide

/-- I6: the vector was chosen before the push reached IE. -/
theorem test_interrupt_over_ie : (nextOf (State.dispatch
      { cpu fun g => { g with pc := 0x1234#16, sp := 0#16 } with ime := true, ie := 0x01#8, ifr := 0x01#5 })).any
    (fun t => t.regs.pc == 0x0040#16 && t.ie == 0x12#8 && t.busRead 0xFFFE#16 == some 0x34#8) = true := by decide

/-! ### Bus (3.2) -/

/-- The edges of the regions of R103. -/
theorem test_region_edges :
    ([0x0000#16, 0x7FFF#16, 0x8000#16, 0x9FFF#16, 0xA000#16, 0xBFFF#16, 0xC000#16, 0xCFFF#16, 0xD000#16, 0xDFFF#16,
      0xE000#16, 0xFDFF#16, 0xFE00#16, 0xFE9F#16, 0xFEA0#16, 0xFEFF#16, 0xFF00#16, 0xFF70#16, 0xFF71#16, 0xFF7F#16,
      0xFF80#16, 0xFFFE#16, 0xFFFF#16].map regionOf) =
    [.rom, .rom, .vram, .vram, .cartRam, .cartRam, .wramFixed, .wramFixed, .wramBanked, .wramBanked, .echo, .echo, .oam, .oam,
      .prohibited, .prohibited, .io, .io, .hole, .hole, .hram, .hram, .ie] := by decide

/-- M1, M2, M4, M5. -/
theorem test_io_dmg :
    ((State.reset.busWrite 0xFF0F#16 0xFF#8).bind fun t => t.busRead 0xFF0F#16) = some 0xFF#8 ∧
    ((State.reset.busWrite 0xFF0F#16 0x00#8).bind fun t => t.busRead 0xFF0F#16) = some 0xE0#8 ∧
    ((State.reset.busWrite 0xFF41#16 0xFF#8).bind fun t => t.busRead 0xFF41#16) = some 0xFE#8 ∧
    ((State.reset.busWrite 0xFF44#16 0x05#8).bind fun t => t.busRead 0xFF44#16) = some 0x00#8 := by decide

/-- M7, M8, M9 and M6, M14. -/
theorem test_io_colour :
    let c := { State.reset with colorMode := true }
    ((c.busWrite 0xFF4F#16 0x03#8).bind fun t => t.busRead 0xFF4F#16) = some 0xFF#8 ∧
    ((c.busWrite 0xFF70#16 0x00#8).bind fun t => t.busRead 0xFF70#16) = some 0xF8#8 ∧
    ((c.busWrite 0xFF70#16 0x05#8).bind fun t => (t.busWrite 0xD000#16 0x77#8).map (·.wram)) = some [(0x5000, 0x77#8)] ∧
    State.reset.busRead 0xFF4F#16 = some 0xFF#8 ∧ State.reset.busRead 0xFF50#16 = some 0xFF#8 := by decide

/-- M11: two palette bytes, and the index moves on. -/
theorem test_palette_ports :
    let c := { State.reset with colorMode := true, ppu := { Ppu.reset with mode := .hblank } }
    ((c.busWrite 0xFF68#16 0x80#8).bind fun t => (t.busWrite 0xFF69#16 0x1F#8).bind fun t =>
      (t.busWrite 0xFF69#16 0x00#8).map fun t => (t.ppu.bgPalRam, t.busRead 0xFF68#16)) =
    some ([(0, 0x1F#8)], some 0xC2#8) := by decide

/-! ### Cartridges (V-S2, V-S3, 3.3) -/

/-- An MBC1 cartridge with numbered banks. -/
def mbc1Cart (romBanks ramBanks : Nat) : Cart :=
  { rom := numbered [1, 2, 3, 0x20, 0x21], romBanks := romBanks, ram := [], ramBanks := ramBanks, mbc := .mbc1 (.reset 5) }

/-- V-S2: the alias and the masking. -/
theorem test_mbc1_alias : ([0x00#8, 0x01#8, 0x02#8, 0x05#8, 0x07#8, 0x20#8].map fun v =>
    cartRead (mbc1Cart 4 0) [(0x2000#16, v)] 0x4000#16) = [0x01#8, 0x01#8, 0x02#8, 0x01#8, 0x03#8, 0x01#8] := by decide

/-- C3, C4, C6, C8. -/
theorem test_mbc1_banks :
    cartRead (mbc1Cart 64 0) [(0x4000#16, 0x01#8), (0x6000#16, 0x01#8)] 0x0000#16 = 0x20#8 ∧
    cartRead (mbc1Cart 64 0) [(0x4000#16, 0x01#8)] 0x4000#16 = 0x21#8 ∧
    cartRead (mbc1Cart 4 4) [(0x0000#16, 0x0A#8), (0x4000#16, 0x02#8), (0x6000#16, 0x01#8), (0xA000#16, 0x77#8)] 0xA000#16
      = 0x77#8 ∧
    cartRead (mbc1Cart 4 1) [(0x0000#16, 0x0B#8), (0xA000#16, 0x77#8)] 0xA000#16 = 0xFF#8 := by decide

/-- C11, C12, C13. -/
theorem test_mbc2 :
    let c : Cart := { rom := numbered [1, 2, 3], romBanks := 4, ram := [], ramBanks := 0, mbc := .mbc2 ⟨false, 1⟩ }
    cartRead c [(0x2100#16, 0x03#8)] 0x4000#16 = 0x03#8 ∧ cartRead c [(0x0100#16, 0x00#8)] 0x4000#16 = 0x01#8 ∧
    cartRead c [(0x0000#16, 0x0A#8), (0xA000#16, 0xAB#8)] 0xA200#16 = 0xFB#8 := by decide

/-- An MBC3 cartridge with a clock. -/
def mbc3Cart (live : Rtc) : Cart :=
  { rom := numbered [1, 5], romBanks := 128, ram := [], ramBanks := 0
    mbc := .mbc3 { hasRtc := true, ramEnable := false, romBank := 1, select := 0, latchPrev := 0xFF#8, live := live, latched := live } }

/-- V-S3, the second row and its latch sequence; C16, C17. -/
theorem test_mbc3 :
    let c := mbc3Cart { s := 59, m := 59, hr := 23, dl := 0xFF#8, dh := 0x01#8 }
    cartRead (c.rtcAdvance 1) [(0x0000#16, 0x0A#8), (0x4000#16, 0x0C#8), (0x6000#16, 0x00#8), (0x6000#16, 0x01#8)] 0xA000#16
      = 0x80#8 ∧
    cartRead (c.rtcAdvance 1) [(0x0000#16, 0x0A#8), (0x4000#16, 0x0B#8), (0x6000#16, 0x00#8), (0x6000#16, 0x01#8)] 0xA000#16
      = 0x00#8 ∧
    cartRead c [(0x2000#16, 0x85#8)] 0x4000#16 = 0x05#8 ∧
    cartRead c [(0x0000#16, 0x0A#8), (0x4000#16, 0x05#8)] 0xA000#16 = 0xFF#8 := by decide

/-- C19, C21, C23. -/
theorem test_mbc5 :
    let c : Cart := { rom := numbered [0x1FF], romBanks := 512, ram := [], ramBanks := 1, mbc := .mbc5 ⟨true, false, 1, 0, false⟩ }
    cartRead c [(0x2000#16, 0xFF#8), (0x3000#16, 0x01#8)] 0x4000#16 = 0xFF#8 ∧
    (c.write 0x4000#16 0x0F#8).mbc = .mbc5 ⟨true, false, 1, 7, true⟩ ∧
    cartRead c [(0x0000#16, 0x0A#8), (0xA000#16, 0x42#8)] 0xA000#16 = 0x42#8 ∧
    cartRead c [(0x0000#16, 0x0A#8), (0xA000#16, 0x42#8), (0x0000#16, 0x1A#8)] 0xA000#16 = 0xFF#8 := by decide

/-! ### The end of a run, and events of a machine that has stopped -/

/-- V-S7: after HALT with IE = 0 the end state is taken at the next dispatch dot, four dots on, and not before. -/
theorem test_run_ends :
    let s := { State.reset with runState := .halted, cyclesRemaining := 4 }
    s.endState = none ∧ ({ s with cyclesRemaining := 2 } : State).endState = none ∧
    ({ s with cyclesRemaining := 1 } : State).endState = some { s with cyclesRemaining := 0 } ∧
    ({ s with cyclesRemaining := 1, ie := 0x10#8 } : State).endState = none ∧
    ({ s with cyclesRemaining := 1, ie := 0xE0#8 } : State).endState = some { s with cyclesRemaining := 0, ie := 0xE0#8 } := by
  decide

/-- R440, R505, R521: a Locked machine takes requests and host accesses, and stays Locked. -/
theorem test_events_when_locked : (nextOf (step
    { State.reset.raiseLock 0xD3#8 with external := [[.joypadRequest, .hostWrite 0xC000#16 0x55#8, .hostRead 0xFF71#16]] })).any
      (fun t => t.ifr == 0x11#5 && t.runState == (State.reset.raiseLock 0xD3#8).runState && t.busRead 0xC000#16 == some 0x55#8
        && t.ppu.dot == 0) = true := by decide

/-! ### PPU, DMA and construction (V-S4, 3.4–3.6) -/

/-- V-S4: step 0 of the power-on PPU; the last dot of line 143 requests VBlank. -/
theorem test_ppu_step :
    (Ppu.reset.step false).1.dot = 1 ∧ (Ppu.reset.step false).1.mode = .oamScan ∧
    ({ Ppu.reset with ly := 143, dot := 455, mode := .hblank }.step false).2 = 0b00001#5 ∧
    ({ Ppu.reset with ly := 143, dot := 455, mode := .hblank }.step false).1.mode = .vblank := by decide

/-- D2: a source above 0xDFFF is echoed down; R496: the delay of 8 DMA steps begins. -/
theorem test_dma_start : (Dma.start 0xE0#8).src = 0xC000#16 ∧ (Dma.start 0xE0#8).reg = 0xE0#8 ∧
    (Dma.start 0xE0#8).active = true ∧ (Dma.start 0xE0#8).delay = 8 := by decide

/-- An image that is zero but for its header codes. -/
def image (length : Nat) (type rom ram : Byte) : Image :=
  { bytes := Memory.write (Memory.write (Memory.write [] 0x147 type) 0x148 rom) 0x149 ram, length := length }

/-- The refusal of an image. -/
def refusalOf (i : Image) : Option LoadRefusal :=
  match construct i false Boot.default with
  | .error r => some r
  | .ok _ => none

/-- K1 to K6. -/
theorem test_construct :
    [refusalOf (image 0x100 0x00#8 0x00#8 0x00#8), refusalOf (image 0x8000 0x00#8 0x00#8 0x00#8),
      refusalOf (image 0x8000 0x00#8 0x01#8 0x00#8), refusalOf (image 0x10000 0x00#8 0x01#8 0x00#8),
      refusalOf (image 0x8000 0x20#8 0x00#8 0x00#8), refusalOf (image 0x8000 0x00#8 0x00#8 0x06#8)] =
    [some .imageTooShort, none, some .imageLength, some .noMbcSize, some .cartridgeType, some .ramSizeCode] := by decide

/-! ### Witnesses: states and operands that meet the hypotheses of the statements, clause by clause -/

/-- DecodeOfEncode. -/
theorem witness_DecodeOfEncode : WellFormed (.ld_bc_n16 0x0FF0#16) = true ∧ WellFormed .bit_7_h = true := by decide

/-- EncodeOfDecode. -/
theorem witness_EncodeOfDecode : decode [0x01#8, 0xF0#8, 0x0F#8] = .ok (.ld_bc_n16 0x0FF0#16, []) := rfl

/-- EveryByteIsBound: just enough bytes, one too few, an encoding. -/
theorem witness_EveryByteIsBound : instrLength 0x01#8 ≤ [0xF0#8, 0x0F#8].length + 1 ∧
    [0xF0#8].length + 1 < instrLength 0x01#8 ∧ encode .nop = [0x00#8] := by decide

/-- RegisterLoads, AluOperations, IncrementAndDecrement, RotatesAndShifts, BitOperations: the operand codes at both ends. -/
theorem witness_register_operands : Loc8.ofCode 0b000#3 = .reg .b ∧ Loc8.ofCode 0b111#3 = .reg .a := by decide

/-- LoadsFromMemory, StoresToMemory: an entry of the lists for every address. -/
theorem witness_memory_entries (a : Word) : (Instr.ld_a_ma16 a, Reg8.a, a, 4) ∈ memoryLoads State.reset a 0#8 ∧
    (Instr.ld_ma16_a a, a, State.reset.r8 .a, 4) ∈ memoryStores State.reset a 0#8 :=
  ⟨by simp [memoryLoads], by simp [memoryStores]⟩

/-- LoadsFromMemory, StoresToMemory: the addresses beside the hole and at its ends, given by `a16` or by HL. -/
theorem witness_memory_addresses : ([0xFF70#16, 0xFF80#16].all fun a =>
      (State.reset.busRead a).isSome && (State.reset.busWrite a 0x00#8).isSome) = true ∧
    regionOf 0xFF71#16 = .hole ∧ regionOf 0xFF7F#16 = .hole ∧ (State.reset.busRead State.reset.regs.hl).isSome = true ∧
    (State.reset.busWrite State.reset.regs.hl 0x00#8).isSome = true ∧
    (cpu fun g => { g with hl := 0xFF71#16 }).regs.hl = 0xFF71#16 := by decide

/-- StackOperations, Calls: both writes of a push at a stack pointer, and a fault at its first or its second one. -/
def pushes (sp : Word) (w : Word) : Bool × Bool :=
  let s := cpu fun g => { g with sp := sp }
  match (s.setR16 .sp (sp - 1)).busWrite (sp - 1) (hiByte w) with
  | some t => (true, ((t.setR16 .sp (sp - 2)).busWrite (sp - 2) (loByte w)).isSome)
  | none => (false, false)

/-- StackOperations and Calls: the push clauses; SP = 0 wraps, SP = 0xFF72 and 0xFF81 stand at the hole's ends. -/
theorem witness_pushes : pushes 0x0000#16 0x1234#16 = (true, true) ∧ pushes 0xFF82#16 0x1234#16 = (true, true) ∧
    regionOf (0xFF72#16 - 1) = .hole ∧ pushes 0xFF81#16 0x1234#16 = (true, false) ∧ regionOf (0xFF81#16 - 2) = .hole := by
  decide

/-- StackOperations: `LD (a16),SP` with both bytes, and with a fault at the first or the second. -/
theorem witness_ld_ma16_sp :
    ((State.reset.busWrite 0xFFFF#16 0xFE#8).bind fun t => t.busWrite (0xFFFF#16 + 1) 0xFF#8).isSome = true ∧
    regionOf 0xFF71#16 = .hole ∧ (State.reset.busWrite 0xFF70#16 0xFE#8).isSome = true ∧ regionOf (0xFF70#16 + 1) = .hole := by
  decide

/-- StackOperations, Returns: a pop across 0xFFFF, and faults at its first and at its second read. -/
theorem witness_pops :
    let s := cpu fun g => { g with sp := 0xFFFF#16 }
    (s.busRead s.regs.sp).isSome = true ∧ ((s.afterRead s.regs.sp).busRead (s.regs.sp + 1)).isSome = true ∧
    regionOf (cpu fun g => { g with sp := 0xFF7F#16 }).regs.sp = .hole ∧
    regionOf (cpu fun g => { g with sp := 0xFF70#16 }).regs.sp ≠ .hole ∧
    regionOf ((cpu fun g => { g with sp := 0xFF70#16 }).regs.sp + 1) = .hole := by decide

/-- AluOperations, IncrementAndDecrement, RotatesAndShifts, BitOperations: the byte at HL, read, read and written, and the
fault. -/
theorem witness_modifies :
    (let s := cpu fun g => { g with hl := 0xFF80#16 }
     s.busRead s.regs.hl = some 0#8 ∧ ((s.afterRead s.regs.hl).busWrite s.regs.hl 0x01#8).isSome = true) ∧
    regionOf (cpu fun g => { g with hl := 0xFF71#16 }).regs.hl = .hole := by decide

/-- BitOperations: the byte that RES 7 and SET 7 leave of 0x80 and of 0x00. -/
theorem witness_BitOperations : (∀ k, k < 8 → (0x00#8).getLsbD k = if k = (7#3).toNat then false else (0x80#8).getLsbD k) ∧
    (∀ k, k < 8 → (0x80#8).getLsbD k = if k = (7#3).toNat then true else (0x00#8).getLsbD k) := by decide

/-- DecimalAdjustIsDecimal: the highest numbers. -/
theorem witness_DecimalAdjustIsDecimal : 99 < 100 ∧ (cpu fun g => { g with af := 0x9900#16 }).r8 .a = bcd 99 := by decide

/-- Calls: what is taken, and a condition that does not hold. -/
theorem witness_Calls : (Instr.rst_38, 0x38#16, 4) ∈ takenCalls State.reset 0#16 ∧ holds 0b01#2 State.reset.flags = false := by
  decide

/-- Returns: what is taken, and a condition that does not hold. -/
theorem witness_Returns : (Instr.ret, 4) ∈ takenReturns State.reset ∧ holds 0b11#2 State.reset.flags = false := by decide

/-- SystemInstructions: the three cases of EI, and op2 at both ends of a register operand. -/
theorem witness_SystemInstructions : State.reset.ime = false ∧ State.reset.pendingEI = .none ∧
    ({ State.reset with ime := true } : State).ime = true ∧
    ({ State.reset with pendingEI := .delayEnable } : State).pendingEI ≠ .none ∧
    (0x00#8).toNat % 8 ≠ 6 ∧ (0xFF#8).toNat % 8 ≠ 6 := by decide

/-- IllegalOpcodesLock. -/
theorem witness_IllegalOpcodesLock : 0xD3#8 ∈ illegalOpcodes ∧ 0x00#8 ∉ illegalOpcodes ∧ State.reset.terminal = false ∧
    (nextOf (exec (opInstr 0x00#8 0) State.reset)).isSome = true := by decide

/-- WhoWritesControlState. -/
theorem witness_WhoWritesControlState : ∃ t, exec .nop State.reset = .next t := ⟨_, rfl⟩

/-- Every statement about a step from any state: the reset state has one. -/
theorem witness_step : ∃ t, step State.reset = .next t := ⟨_, rfl⟩

/-- The address of `LD (HL),n8`, of `INC (HL)`, of PUSH and of `LD (a16),SP`, and a byte apart from it. -/
theorem witness_StoringInstructionFrames :
    let s := cpu fun g => { g with hl := 0xC000#16 }
    s.memoriesWf = true ∧ (Instr.ld_mhl_n8 0x01#8, s.regs.hl) ∈ byteStores s 0#16 0x01#8 ∧
    (Instr.inc_mhl, s.regs.hl) ∈ byteStores s 0#16 0x01#8 ∧ plain s.regs.hl = true ∧
    (nextOf (exec (.ld_mhl_n8 0x01#8) s)).isSome = true ∧
    (Instr.push_bc, s.regs.sp - 1, s.regs.sp - 2) ∈ wordStores s 0#16 ∧
    (Instr.ld_ma16_sp 0xCFFF#16, 0xCFFF#16, 0xCFFF#16 + 1) ∈ wordStores s 0xCFFF#16 ∧
    plain (s.regs.sp - 1) = true ∧ plain (s.regs.sp - 2) = true ∧ (nextOf (exec .push_bc s)).isSome = true := by decide

/-- The same statement: 0xE001 is no byte of a store to 0xC000, and 0xE000 is. -/
theorem witness_sameByte : ¬ sameByte State.reset 0xC000#16 0xE001#16 ∧ sameByte State.reset 0xC000#16 0xE000#16 := by
  constructor
  · rintro (h | ⟨h, -⟩ | ⟨-, h⟩ | ⟨-, h, -⟩) <;> revert h <;> decide
  · exact .inr (.inr (.inl (by decide)))

/-- StepRunsDecodedInstruction: the reset state runs the NOP of its zero image. -/
theorem witness_StepRunsDecodedInstruction : ∃ s' t u bytes i, State.reset.takeEvents = s' ∧
    s'.runState = .running ∧ s'.cyclesRemaining ≤ 1 ∧ (s'.ime = false ∨ s'.pending = 0#5) ∧
    { s' with cyclesRemaining := 0 }.fetchInstr = .ok bytes t ∧ decode bytes = .ok (i, []) ∧ exec i t = .next u :=
  ⟨State.reset, _, _, [0x00#8], .nop, rfl, rfl, Nat.zero_le 1, .inl rfl, rfl, rfl, rfl⟩

/-- StepRunsDecodedInstruction, the second clause: PC in the hole. -/
theorem witness_step_stops : ∃ t, { cpu fun g => { g with pc := 0xFF71#16 } with cyclesRemaining := 0 }.fetchInstr = .stop t :=
  ⟨_, rfl⟩

/-- FetchReadsBytesAtPc: a fetch, three bytes just below the hole, PC in the hole, and in colour mode an opcode of three
bytes at 0xFF70, whose second byte lies in the hole. -/
theorem witness_FetchReadsBytesAtPc : (∃ bytes t, State.reset.fetchInstr = .ok bytes t) ∧
    (∀ k : Nat, k < 3 → regionOf (0xFF6E#16 + BitVec.ofNat 16 k) ≠ .hole) ∧ regionOf 0xFF71#16 = .hole ∧
    { State.reset with colorMode := true, svbk := 2 }.busRead 0xFF70#16 = some 0xFA#8 ∧ 1 < instrLength 0xFA#8 ∧
    (∀ j : Nat, j < 1 → regionOf (0xFF70#16 + BitVec.ofNat 16 j) ≠ .hole) ∧
    regionOf (0xFF70#16 + BitVec.ofNat 16 1) = .hole :=
  ⟨⟨_, _, rfl⟩, by decide, by decide, by decide, by decide, by decide, by decide⟩

/-- CountdownLeavesTheCpu: the last dot before the dispatch dot, with empty gaps on the list and with none, and the
dispatch dot itself, with a count of 1 and of 0. -/
theorem witness_CountdownLeavesTheCpu : let s := { State.reset.charge 5 with external := [[], []] }
    s.terminal = false ∧ quiet 19 s ∧ quiet 19 (State.reset.charge 5) ∧ 19 < s.cyclesRemaining ∧ quiet 1 s ∧
    ({ s with cyclesRemaining := 1 } : State).cyclesRemaining ≤ 1 ∧ State.reset.cyclesRemaining ≤ 1 := by
  unfold quiet
  decide

/-- The same statement: the dispatch of the reset state has a next state. -/
theorem witness_dispatch : ∃ t, { State.reset with external := State.reset.external.drop 1, cyclesRemaining := 0 }.dispatch = .next t :=
  ⟨_, rfl⟩

/-- WaitingAndWaking, clause by clause. -/
theorem witness_WaitingAndWaking : (State.reset.raiseFault 0xFF71#16).terminal = true ∧
    ({ State.reset with runState := .halted } : State).pending = 0#5 ∧
    ({ State.reset with runState := .stopped } : State).ifr.getLsbD 4 = false ∧
    ({ State.reset with runState := .halted, ie := 0x01#8 } : State).pending ≠ 0#5 ∧
    ({ State.reset with runState := .stopped, ifr := 0x10#5 } : State).ifr.getLsbD 4 = true ∧
    (∀ k, k < 5 → (0xE0#8).getLsbD k = false) := by decide

/-- The same statement: the environment asks for all it may ask for, and the host for nothing. -/
theorem witness_hostFree :
    hostFree { State.reset with external := [[.timerRequest, .serialRequest], [], [.joypadRequest, .rtcAdvance 1]] } := by
  simp [hostFree]

/-- InterruptService: the first and the last source, and the pushes with SP as in `witness_pushes`. -/
theorem witness_InterruptService (i : Irq) :
    let s : State := { State.reset with ime := true, ie := 0xFF#8, ifr := BitVec.twoPow 5 i.bit }
    s.runState = .running ∧ s.ime = true ∧ s.ie.getLsbD i.bit = true ∧ s.ifr.getLsbD i.bit = true ∧
      (∀ k, k < i.bit → (s.ie.getLsbD k && s.ifr.getLsbD k) = false) := by
  cases i <;> decide

/-- EnableLatency. -/
theorem witness_EnableLatency : State.reset.terminal = false ∧ State.reset.ime = false ∧ State.reset.pendingEI = .none ∧
    (nextOf (exec .nop { State.reset with pendingEI := .enableNextTick })).any (fun t => !t.terminal) = true := by decide

/-- The invariants' premises hold at reset, where `witness_step` gives a step. -/
theorem witness_invariants : State.reset.memoriesWf = true ∧ State.reset.flagNibbleClear ∧ State.reset.eiInvariant ∧
    State.reset.ppu.lineInv ∧ State.reset.ppu.scanInv ∧ State.reset.ppu.pipeInv ∧ State.reset.dma.inv :=
  ⟨by decide, by unfold State.flagNibbleClear; decide, by unfold State.eiInvariant; decide,
    by unfold Ppu.lineInv; decide, by unfold Ppu.scanInv; decide, by unfold Ppu.pipeInv; decide, by unfold Dma.inv; decide⟩

/-- ReadAfterWrite: every region it names, at an edge, where VRAM and OAM are not blocked. -/
theorem witness_ReadAfterWrite :
    let s : State := { State.reset with ppu := { Ppu.reset with mode := .hblank } }
    s.memoriesWf = true ∧ s.dma.active = false ∧ s.oamBlocked = false ∧
      ([0x9FFF#16, 0xC000#16, 0xDFFF#16, 0xFDFF#16, 0xFE9F#16, 0xFF80#16, 0xFFFF#16].all fun a =>
        (s.busWrite a 0x5A#8).isSome) = true := by decide

/-- ReadsHaveNoSideEffect: a read, and the ends of the peripheral range. -/
theorem witness_ReadsHaveNoSideEffect : (∃ v t, State.reset.read 0xFF40#16 = .ok v t) ∧ isEnvAddr 0xFF40#16 = false ∧
    isEnvAddr 0xFF00#16 = true ∧ isEnvAddr 0xFF3F#16 = true :=
  ⟨⟨_, _, rfl⟩, by decide, by decide, by decide⟩

/-- ColourGating, PalettePorts: the modes, and an address the colour range does not implement. -/
theorem witness_colour : State.reset.colorMode = false ∧ ({ State.reset with colorMode := true } : State).colorMode = true ∧
    0xFF4C#16 ∉ [0xFF4F#16, 0xFF68#16, 0xFF69#16, 0xFF6A#16, 0xFF6B#16, 0xFF70#16] ∧
    ({ Ppu.reset with mode := .drawing } : Ppu).mode = .drawing ∧ Ppu.reset.mode ≠ .drawing ∧
    (0x7F#8).toNat < 128 ∧ 128 ≤ (0x80#8).toNat := by decide

/-- LcdOnAndOff: the three kinds of write, and the LCD off. -/
theorem witness_LcdOnAndOff : Ppu.reset.lcdOnPrev = true ∧ (0x11#8).getLsbD 7 = false ∧
    ({ Ppu.reset with lcdOnPrev := false } : Ppu).lcdOnPrev = false ∧ (0x91#8).getLsbD 7 = true ∧
    ({ Ppu.reset with lcdc := 0x11#8 } : Ppu).lcdc.getLsbD 7 = false := by decide

/-- The cartridge statements: legal bank counts, with and without RAM, and each variant. -/
theorem witness_bankCounts : bankCounts (mbc1Cart 128 4) ∧ bankCounts (mbc1Cart 2 0) ∧
    (mbc1Cart 128 4).mbc = .mbc1 (.reset 5) ∧ Cart.reset.mbc = .noMbc :=
  ⟨⟨⟨7, rfl⟩, .inr ⟨2, rfl⟩⟩, ⟨⟨1, rfl⟩, .inl rfl⟩, rfl, rfl⟩

/-- Mbc2Cartridge, Mbc3Cartridge: both control writes, RAM on and off, and every kind of select value. -/
theorem witness_mbc_clauses : (0x00FF#16).toNat / 256 % 2 = 0 ∧ (0x3FFF#16).toNat / 256 % 2 = 1 ∧
    (⟨true, 1⟩ : Mbc2Regs).ramEnable = true ∧ (⟨false, 1⟩ : Mbc2Regs).ramEnable = false ∧ (0x03#8).toNat ≤ 3 ∧
    4 ≤ (0x04#8).toNat ∧ (0x07#8).toNat < 8 ∧ 12 < (0x0D#8).toNat := by decide

/-- ClockAdvancesOneDay: the last second of day 511, and a halted clock. -/
theorem witness_ClockAdvancesOneDay :
    let r : Rtc := { s := 59, m := 59, hr := 23, dl := 0xFF#8, dh := 0x01#8 }
    (mbc3Cart r).mbc = .mbc3 ⟨true, false, 1, 0, 0xFF#8, r, r⟩ ∧ r.dh.getLsbD 6 = false ∧ r.s.toNat < 60 ∧ r.m.toNat < 60 ∧
      r.hr.toNat < 24 ∧ day r = 511 ∧ ({ r with dh := 0x40#8 } : Rtc).dh.getLsbD 6 = true := by decide

/-- DmaCopiesOam, LineTiming, PpuRequests, OamScanSelectsTen: the power-on PPU, and lines 143, 144 and 153 for the
clauses of the next line. -/
theorem witness_ppu_statements : State.reset.memoriesWf = true ∧ Ppu.reset.lcdc.getLsbD 7 = true ∧ Ppu.reset.dot = 0 ∧
    Ppu.reset.mode = .oamScan ∧ Ppu.reset.ly.toNat < 144 ∧ Ppu.reset.scanIndex = 0 ∧ Ppu.reset.scanMicro = .readY ∧
    Ppu.reset.selected = [] ∧
    (let next (l : Byte) : Nat := (if l.toNat = 153 then 0#8 else l + 1).toNat
     next 142 < 144 ∧ next 143 = 144 ∧ 144 < next 144 ∧ 144 < next 152 ∧ next 153 < 144) ∧
    ({ Ppu.reset with ly := 153, mode := .vblank } : Ppu).dot = 0 ∧
    144 ≤ ({ Ppu.reset with ly := 144, mode := .vblank } : Ppu).ly.toNat := by decide

/-- PixelMixing: an opaque object pixel over an opaque background pixel, with and without priority, and objects off. -/
theorem witness_PixelMixing : let p : Ppu := { Ppu.reset with lcdc := 0x93#8 }
    let front : Pixel := ⟨3#2, 1#3, 0, false⟩
    let behind : Pixel := ⟨3#2, 1#3, 0, true⟩
    front.color ≠ 0#2 ∧ p.lcdc.getLsbD 1 = true ∧ front.bgPriority = false ∧ p.lcdc.getLsbD 0 = true ∧
      behind.bgPriority = true ∧ Ppu.reset.lcdc.getLsbD 1 = false := by decide

/-- ConstructionRefusals: an image for each clause. -/
theorem witness_ConstructionRefusals : (image 0x14F 0#8 0#8 0#8).length < 0x150 ∧
    8 < ((image 0x150 0#8 0x09#8 0#8).byte 0x148).toNat ∧ ((image 0x150 0#8 0x08#8 0x01#8).byte 0x148).toNat ≤ 8 ∧
    ((image 0x150 0#8 0#8 0x01#8).byte 0x149).toNat ∉ [0x00, 0x02, 0x03, 0x04, 0x05] ∧
    ((image 0x150 0x04#8 0#8 0#8).byte 0x147).toNat = 0x04 ∧
    (image 0x8001 0x01#8 0#8 0#8).length ≠ 2 ^ (((image 0x8001 0x01#8 0#8 0#8).byte 0x148).toNat + 1) * 0x4000 ∧
    refusalOf (image 0x8000 0x09#8 0#8 0x03#8) = some .noMbcSize ∧ refusalOf (image 0x8000 0x09#8 0#8 0x02#8) = none := by
  decide

/-- The launch parameters of the power-on witnesses: not the default clock, draw number and events. -/
def launch : Boot :=
  { Boot.default with
    af := 0x01FF#16, rtc := { s := 5, m := 0, hr := 0, dl := 0, dh := 0 }, env := { draws := 3, events := [[.timerRequest]] } }

/-- The variant of a constructed machine. -/
def variant (i : Image) : Option Mbc :=
  match construct i false launch with
  | .error _ => none
  | .ok s => some s.cart.mbc

/-- PowerOnValues: a construction with each MBC variant. -/
theorem witness_PowerOnValues :
    [variant (image 0x8000 0x00#8 0#8 0#8), variant (image 0x8000 0x01#8 0#8 0#8), variant (image 0x100000 0x01#8 5#8 0#8),
      variant (image 0x8000 0x05#8 0#8 0#8), variant (image 0x8000 0x0F#8 0#8 0#8), variant (image 0x8000 0x1C#8 0#8 0#8)] =
    [some .noMbc, some (.mbc1 (.reset 5)), some (.mbc1m (.reset 4)),
      some (.mbc2 { ramEnable := false, romBank := 1 }),
      some (.mbc3 { hasRtc := true, ramEnable := false, romBank := 1, select := 0, latchPrev := 0xFF, live := launch.rtc,
                    latched := launch.rtc }),
      some (.mbc5 { hasRumble := true, ramEnable := false, romBank := 1, ramBank := 0, rumble := false })] := by decide

/-- PowerOnValues: the environment of a launch is in the constructed machine. -/
theorem witness_launch : ∃ s, construct (image 0x8000 0x01#8 0#8 0#8) true launch = .ok s ∧ s.envDraws = 3 ∧
    s.external = [[.timerRequest]] ∧ s.regs.af = 0x01F0#16 := ⟨_, rfl, rfl, rfl, rfl⟩
end Sys2Proof.Tests
end

section
/-! PROOFS. The encoding (R200–R214): what the decoder answers for each kind of main-table row, the length of each row,
and that every encoding has the length its first byte fixes. -/

namespace Sys2Proof

/-! ### The decoder, one rule for each kind of row -/

section Rows
variable {op : Byte}

theorem instrLength_of_op {i : Instr} (h : mainEntry op = .op i) : instrLength op = 1 := by simp [instrLength, h]

theorem instrLength_of_n8 {f : Byte → Instr} (h : mainEntry op = .n8 f) : instrLength op = 2 := by simp [instrLength, h]

theorem instrLength_of_n16 {f : Word → Instr} (h : mainEntry op = .n16 f) : instrLength op = 3 := by
  simp [instrLength, h]

theorem decode_of_op {i : Instr} (h : mainEntry op = .op i) (rest : List Byte) :
    decode (op :: rest) = .ok (resolvePrefix i, rest) := by simp [decode, decodeRow, h]

theorem decode_of_n8 {f : Byte → Instr} (h : mainEntry op = .n8 f) (n : Byte) (rest : List Byte) :
    decode (op :: n :: rest) = .ok (resolvePrefix (f n), rest) := by simp [decode, decodeRow, h]

theorem decode_of_n16 {f : Word → Instr} (h : mainEntry op = .n16 f) (lo hi : Byte) (rest : List Byte) :
    decode (op :: lo :: hi :: rest) = .ok (resolvePrefix (f (mkWord hi lo)), rest) := by simp [decode, decodeRow, h]

end Rows

/-! ### Enough bytes, and too few -/

/-- R213, R442: with the bytes it asks for, every first byte decodes, and the bytes after the instruction are left. -/
theorem exists_decode_drop (op : Byte) (rest : List Byte) (h : instrLength op ≤ rest.length + 1) :
    ∃ i, decode (op :: rest) = .ok (i, rest.drop (instrLength op - 1)) := by
  cases hm : mainEntry op with
  | op i =>
    rw [instrLength_of_op hm]
    exact ⟨_, decode_of_op hm rest⟩
  | n8 f =>
    rw [instrLength_of_n8 hm] at h ⊢
    match rest, h with
    | n :: rest, _ => exact ⟨_, decode_of_n8 hm n rest⟩
  | n16 f =>
    rw [instrLength_of_n16 hm] at h ⊢
    match rest, h with
    | lo :: hi :: rest, _ => exact ⟨_, decode_of_n16 hm lo hi rest⟩

/-- R442: with fewer bytes than it asks for, a first byte decodes to nothing. -/
theorem decode_truncated (op : Byte) (rest : List Byte) (h : rest.length + 1 < instrLength op) :
    decode (op :: rest) = .error (.truncated op) := by
  cases hm : mainEntry op with
  | op i => rw [instrLength_of_op hm] at h; omega
  | n8 f =>
    rw [instrLength_of_n8 hm] at h
    match rest, h with
    | [], _ => simp [decode, decodeRow, hm]
  | n16 f =>
    rw [instrLength_of_n16 hm] at h
    match rest, h with
    | [], _ => simp [decode, decodeRow, hm]
    | [lo], _ => simp [decode, decodeRow, hm]

/-- R214: the byte after 0xCB picks the entry of the second table. -/
theorem decode_cb (op2 : Byte) (rest : List Byte) : decode (0xCB#8 :: op2 :: rest) = .ok (cbInstr op2, rest) :=
  decode_of_n8 (f := .prefix_cb) rfl op2 rest

/-! ### The lengths of the main table -/

/-- R209: the first bytes with a 16-bit immediate. -/
def threeByteOps : List Byte :=
  [0x01#8, 0x11#8, 0x21#8, 0x31#8, 0x08#8, 0xC2#8, 0xC3#8, 0xC4#8, 0xCA#8, 0xCC#8, 0xCD#8, 0xD2#8, 0xD4#8,
   0xDA#8, 0xDC#8, 0xEA#8, 0xFA#8]

/-- R209: the first bytes with one more byte: an immediate, the byte after STOP, or the byte after 0xCB. -/
def twoByteOps : List Byte :=
  [0x06#8, 0x0E#8, 0x16#8, 0x1E#8, 0x26#8, 0x2E#8, 0x36#8, 0x3E#8, 0x18#8, 0x20#8, 0x28#8, 0x30#8, 0x38#8,
   0xC6#8, 0xCE#8, 0xD6#8, 0xDE#8, 0xE6#8, 0xEE#8, 0xF6#8, 0xFE#8, 0xE0#8, 0xF0#8, 0xE8#8, 0xF8#8, 0x10#8, 0xCB#8]

/-- R200, R209: the length of the instruction with this first byte, as the spec's table has it. -/
def opLength (op : Byte) : Nat := if op ∈ threeByteOps then 3 else if op ∈ twoByteOps then 2 else 1

/-- The 256 rows of the main table have the lengths of the spec's table. -/
theorem instrLength_eq_opLength : ∀ op : Byte, instrLength op = opLength op := by decide

/-! ### The lengths of the encodings -/

/-- R200: the encoding of every instruction has the length its first byte fixes. It is compared with `opLength`, which
evaluates faster than a lookup in the main table. -/
theorem length_encode (i : Instr) : (encode i).length = instrLength ((encode i).headD 0) := by
  rw [instrLength_eq_opLength]
  cases i <;> rfl

/-- Settles O3: the row of the first byte gives the length and the decoder's answer; the table of the lengths is read off
the 256 rows, and the encodings' lengths off the constructors. -/
theorem everyByteIsBound : Obligations.EveryByteIsBound := by
  refine ⟨exists_decode_drop, decode_cb, instrLength_eq_opLength, decode_truncated, fun i op rest h => ?_⟩
  simpa [h] using length_encode i

end Sys2Proof
end

section
/-! PROOFS. The 8-bit loads (R230–R249): the shape of instruction each of them is, and, by the laws of the shapes, what it
does where the bus answers and where it stops. -/

namespace Sys2Proof

open Sys2Proof.Machine Sys2Proof.Claims

/-! ### Between registers (R231, R232) -/

/-- R203: the operand code of a register. -/
def Reg8.code (r : Reg8) : BitVec 3 :=
  match r with
  | .b => 0
  | .c => 1
  | .d => 2
  | .e => 3
  | .h => 4
  | .l => 5
  | .a => 7

/-- R203: only its own code names a register. -/
theorem eq_code_of_ofCode {y : BitVec 3} {r : Reg8} (h : Loc8.ofCode y = .reg r) : y = r.code := by
  revert y
  cases r <;> decide

/-- R231: the rows 0x40–0x7F with two registers are the register copies. -/
theorem exec_copyReg_row (r r' : Reg8) (n : Word) (s : State) :
    exec (opInstr (0b01#2 ++ r.code ++ r'.code) n) s = .next (s.copyReg r r') := by
  cases r <;> cases r' <;> rfl

/-- R232: the rows `00 y 110` with a register are the immediate loads. -/
theorem exec_loadImm_row (r : Reg8) (n : Word) (s : State) :
    exec (opInstr (0b00#2 ++ r.code ++ 0b110#3) n) s = .next (s.loadImm r (loByte n)) := by
  cases r <;> rfl

/-- Settles O6: a register's operand code picks its row of the table, and the row's shape says what it changes. -/
theorem registerLoads : Obligations.RegisterLoads := by
  refine ⟨fun y z r r' n s hy hz => ?_, fun y r n s hy => ?_⟩
  · obtain rfl := eq_code_of_ofCode hy
    obtain rfl := eq_code_of_ofCode hz
    exact exec_copyReg_row r r' n s
  · obtain rfl := eq_code_of_ofCode hy
    exact exec_loadImm_row r n s

/-! ### Between a register and the bus (R233–R249) -/

/-- R208: the model's high-page address is the one the statements compute. -/
theorem highPage_eq_high (n : Byte) : highPage n = high n := by
  apply BitVec.eq_of_toNat_eq
  rw [highPage_toNat, high, BitVec.toNat_ofNat]
  omega

/-- Every load of the list is `loadFrom`, with its register, its address and its cost. -/
theorem exec_memoryLoads {s : State} {m : Word} {k : Byte} {i : Instr} {r : Reg8} {a : Word} {n : Nat}
    (h : (i, r, a, n) ∈ memoryLoads s m k) : exec i s = .next (s.loadFrom r a n) := by
  suffices hall : ∀ x ∈ memoryLoads s m k, exec x.1 s = .next (s.loadFrom x.2.1 x.2.2.1 x.2.2.2) from hall _ h
  simp only [memoryLoads, List.forall_mem_cons, ← highPage_eq_high]
  exact ⟨rfl, rfl, rfl, rfl, rfl, rfl, rfl, rfl, rfl, rfl, rfl, rfl, List.forall_mem_nil _⟩

/-- Every store of the list is `storeTo`, with its address, its byte and its cost. -/
theorem exec_memoryStores {s : State} {m : Word} {k v : Byte} {i : Instr} {a : Word} {n : Nat}
    (h : (i, a, v, n) ∈ memoryStores s m k) : exec i s = .next (s.storeTo a v n) := by
  suffices hall : ∀ x ∈ memoryStores s m k, exec x.1 s = .next (s.storeTo x.2.1 x.2.2.1 x.2.2.2) from hall _ h
  simp only [memoryStores, List.forall_mem_cons, ← highPage_eq_high]
  exact ⟨rfl, rfl, rfl, rfl, rfl, rfl, rfl, rfl, rfl, rfl, rfl, rfl, rfl, List.forall_mem_nil _⟩

section Steps
variable (s : State)

/-- R242: `LD A,(HL+)`. -/
theorem exec_ld_a_mhli : exec .ld_a_mhli s = .next (s.loadStep 1) := rfl

/-- R243: `LD A,(HL-)`. -/
theorem exec_ld_a_mhld : exec .ld_a_mhld s = .next (s.loadStep (-1)) := rfl

/-- R240: `LD (HL+),A`. -/
theorem exec_ld_mhli_a : exec .ld_mhli_a s = .next (s.storeStep 1) := rfl

/-- R241: `LD (HL-),A`. -/
theorem exec_ld_mhld_a : exec .ld_mhld_a s = .next (s.storeStep (-1)) := rfl

end Steps

/-- Settles O7: each load is `loadFrom` or `loadStep`, which complete with the byte read or fault. -/
theorem loadsFromMemory : Obligations.LoadsFromMemory := by
  refine ⟨fun s m k v i r a n hi hv => ?_, fun s v hv => ?_, fun s m k i r a n hi ha => ?_, fun s ha => ?_⟩
  · rw [exec_memoryLoads hi, State.loadFrom_of_some r n hv]
  · rw [exec_ld_a_mhli, exec_ld_a_mhld, State.loadStep_of_some 1 hv, State.loadStep_of_some (-1) hv, sub_eq_add_neg]
    exact ⟨rfl, rfl⟩
  · rw [exec_memoryLoads hi, State.loadFrom_of_hole r n ha, State.raiseFault]
  · rw [exec_ld_a_mhli, exec_ld_a_mhld, State.loadStep_of_hole 1 ha, State.loadStep_of_hole (-1) ha]
    exact ⟨rfl, rfl⟩

/-- Settles O8: each store is `storeTo` or `storeStep`, which complete with the bus write or fault. -/
theorem storesToMemory : Obligations.StoresToMemory := by
  refine ⟨fun s t m k v i a n hi ht => ?_, fun s t ht => ?_, fun s m k v i a n hi ha => ?_, fun s ha => ?_⟩
  · rw [exec_memoryStores hi, State.storeTo_of_some n ht]
  · rw [exec_ld_mhli_a, exec_ld_mhld_a, State.storeStep_of_some 1 ht, State.storeStep_of_some (-1) ht, sub_eq_add_neg]
    exact ⟨rfl, rfl⟩
  · rw [exec_memoryStores hi, State.storeTo_of_hole n ha, State.raiseFault]
  · rw [exec_ld_mhli_a, exec_ld_mhld_a, State.storeStep_of_hole 1 ha, State.storeStep_of_hole (-1) ha]
    exact ⟨rfl, rfl⟩

end Sys2Proof
end

section
/-! PROOFS. The 16-bit loads between registers (R260, R262, R263): the row of each pair, and the model's SP arithmetic in
the statements' plain arithmetic. -/

namespace Sys2Proof

open Sys2Proof.Machine Sys2Proof.Claims

/-- R204: the four codes of a pair. -/
theorem pairCode_cases (p : BitVec 2) : p = 0b00#2 ∨ p = 0b01#2 ∨ p = 0b10#2 ∨ p = 0b11#2 := by
  revert p
  decide

/-- R260: the rows `00 pp 0001` are the immediate loads of the pairs. -/
theorem exec_loadImm16_row (p : BitVec 2) (n : Word) (s : State) :
    exec (opInstr (0b00#2 ++ p ++ 0b0001#4) n) s = .next (s.loadImm16 (Reg16.ofRp p) n) := by
  obtain rfl | rfl | rfl | rfl := pairCode_cases p <;> rfl

/-- R262: `LD SP,HL`. -/
theorem exec_ld_sp_hl (s : State) : exec .ld_sp_hl s = .next s.copyHlToSp := rfl

/-- R263: `LD HL,SP+e8`. -/
theorem exec_ld_hl_sp_e8 (e : Byte) (s : State) : exec (.ld_hl_sp_e8 e) s = .next (s.loadHlSp e) := rfl

/-- Adding the sign-extended byte is adding the signed number modulo 2^16. -/
theorem add_sext16 (a : Word) (e : Byte) : a + sext16 e = BitVec.ofInt 16 ((a.toNat : Int) + e.toInt) := by
  rw [BitVec.ofInt_add, BitVec.ofInt_natCast, BitVec.ofNat_toNat, BitVec.setWidth_eq]
  rfl

/-- R263, R323: the model's SP plus a signed byte, with its flags, is the one the statements compute. -/
theorem addSp_eq_spRule (sp : Word) (e : Byte) : addSp sp e = spRule sp e := by
  rw [addSp, add_sext16]
  rfl

/-- Settles O9: each pair's row is the immediate load of that pair, and the sum with SP is the plain one. -/
theorem wordLoads : Obligations.WordLoads := by
  refine ⟨exec_loadImm16_row, exec_ld_sp_hl, fun s e => ?_⟩
  rw [exec_ld_hl_sp_e8, State.loadHlSp, addSp_eq_spRule]

end Sys2Proof
end

section
/-! PROOFS. The 8-bit arithmetic and logic (43_alu8.md, R280–R312): the row of each operand code, and the model's formulas
in the statements' plain arithmetic. -/

namespace Sys2Proof

open Sys2Proof.Machine Sys2Proof.Claims

/-! ### The rows -/

/-- R203, R206: the eight codes of an operand or of an operation. -/
theorem octalCode_cases (y : BitVec 3) :
    y = 0#3 ∨ y = 1#3 ∨ y = 2#3 ∨ y = 3#3 ∨ y = 4#3 ∨ y = 5#3 ∨ y = 6#3 ∨ y = 7#3 := by
  revert y
  decide

/-- R203: code 6 is the byte at HL. -/
theorem ofCode_mhl : Loc8.ofCode 0b110#3 = .mhl := rfl

/-- The rows `10 y z`: field y is the ALU operation and field z its operand. -/
theorem exec_aluLoc_row (y z : BitVec 3) (n : Word) (s : State) :
    exec (opInstr (0b10#2 ++ y ++ z) n) s = .next (s.aluLoc (AluOp.ofCode y) (Loc8.ofCode z)) := by
  obtain rfl | rfl | rfl | rfl | rfl | rfl | rfl | rfl := octalCode_cases y <;>
    obtain rfl | rfl | rfl | rfl | rfl | rfl | rfl | rfl := octalCode_cases z <;> rfl

/-- The rows `11 y 110`: the ALU operations on the immediate byte. -/
theorem exec_aluImm_row (y : BitVec 3) (n : Word) (s : State) :
    exec (opInstr (0b11#2 ++ y ++ 0b110#3) n) s = .next (s.aluImm (AluOp.ofCode y) (loByte n)) := by
  obtain rfl | rfl | rfl | rfl | rfl | rfl | rfl | rfl := octalCode_cases y <;> rfl

/-- R305, R306: the rows `00 y 100`. -/
theorem exec_incLoc_row (y : BitVec 3) (n : Word) (s : State) :
    exec (opInstr (0b00#2 ++ y ++ 0b100#3) n) s = .next (s.incLoc (Loc8.ofCode y)) := by
  obtain rfl | rfl | rfl | rfl | rfl | rfl | rfl | rfl := octalCode_cases y <;> rfl

/-- R307, R308: the rows `00 y 101`. -/
theorem exec_decLoc_row (y : BitVec 3) (n : Word) (s : State) :
    exec (opInstr (0b00#2 ++ y ++ 0b101#3) n) s = .next (s.decLoc (Loc8.ofCode y)) := by
  obtain rfl | rfl | rfl | rfl | rfl | rfl | rfl | rfl := octalCode_cases y <;> rfl

section Single
variable (s : State)

/-- R306: `INC (HL)`. -/
theorem exec_inc_mhl : exec .inc_mhl s = .next (s.incLoc .mhl) := rfl

/-- R308: `DEC (HL)`. -/
theorem exec_dec_mhl : exec .dec_mhl s = .next (s.decLoc .mhl) := rfl

/-- R309: `DAA`. -/
theorem exec_daa : exec .daa s = .next s.adjustA := rfl

/-- R310: `CPL`. -/
theorem exec_cpl : exec .cpl s = .next s.complementA := rfl

/-- R311: `SCF`. -/
theorem exec_scf : exec .scf s = .next s.setCarry := rfl

/-- R312: `CCF`. -/
theorem exec_ccf : exec .ccf s = .next s.flipCarry := rfl

end Single

/-! ### ADD to CP in plain arithmetic (R280–R304) -/

/-- A flag tested on bytes is the flag of what the test says. -/
theorem beq_eq_decide_of_iff {a b : Byte} {p : Prop} [Decidable p] (h : a = b ↔ p) : (a == b) = decide p :=
  (beq_eq_decide a b).trans (decide_eq_decide.2 h)

/-- The Z flag of a byte computed from an integer: the integer is 0 modulo 256. -/
theorem ofInt8_beq_zero (i : Int) : (BitVec.ofInt 8 i == 0#8) = decide (i % 256 = 0) := by
  apply beq_eq_decide_of_iff
  rw [← BitVec.toNat_inj, BitVec.toNat_ofInt, BitVec.toNat_ofNat]
  omega

/-- The byte of a difference of integers is the difference of their bytes. -/
theorem ofInt8_sub (i j : Int) : BitVec.ofInt 8 (i - j) = BitVec.ofInt 8 i - BitVec.ofInt 8 j := Int.cast_sub i j

/-- The byte of a byte's own number is that byte. -/
theorem ofInt8_toNat (a : Byte) : BitVec.ofInt 8 a.toNat = a := by
  rw [BitVec.ofInt_natCast, BitVec.ofNat_toNat, BitVec.setWidth_eq]

/-- R280: `Sub8` over the integers. -/
theorem sub8_eq (a b : Byte) (c : Bool) :
    sub8 a b c = (BitVec.ofInt 8 ((a.toNat : Int) - b.toNat - bitOf c),
      ⟨decide (((a.toNat : Int) - b.toNat - bitOf c) % 256 = 0), true, below (a.toNat % 16) (b.toNat % 16 + bitOf c),
        below a.toNat (b.toNat + bitOf c)⟩) := by
  rw [← ofInt8_beq_zero, ofInt8_sub, ofInt8_sub, ofInt8_toNat, ofInt8_toNat, BitVec.ofInt_natCast, sub8]

/-- R281–R304: the model's ALU is the one the statements compute. -/
theorem applyAlu_eq_aluRule (op : AluOp) (a v : Byte) (c : Bool) : applyAlu op a v c = aluRule op a v c := by
  cases op
  case add | adc | and | xor | or => rfl
  case sub | sbc | cp => rw [applyAlu, sub8_eq]; rfl

/-- An ALU operation on a state, by the statements' arithmetic. -/
theorem alu_eq (s : State) (op : AluOp) (v : Byte) :
    s.alu op v = (s.setR8 .a (aluRule op (s.r8 .a) v s.flags.c).1).setFlags (aluRule op (s.r8 .a) v s.flags.c).2 := by
  rw [State.alu, applyAlu_eq_aluRule]

/-- R281–R304 on a register. -/
theorem aluLoc_reg (s : State) (op : AluOp) (r : Reg8) : s.aluLoc op (.reg r) = (s.alu op (s.r8 r)).charge 1 := rfl

/-- Settles O11: each row is `aluLoc` or `aluImm` of its operation, and the model's ALU is the plain one. -/
theorem aluOperations : Obligations.AluOperations := by
  refine ⟨fun y z r n s hz => ?_, fun y v n s hv => ?_, fun y n s ha => ?_, fun y n s => ?_⟩
  · rw [exec_aluLoc_row, hz, aluLoc_reg, alu_eq]
  · rw [exec_aluLoc_row, ofCode_mhl, State.aluLoc_of_some _ hv, alu_eq,
      State.r8_afterRead, State.flags_afterRead]
  · rw [exec_aluLoc_row, ofCode_mhl, State.aluLoc_of_hole _ ha]
  · rw [exec_aluImm_row, State.aluImm, alu_eq]

/-! ### INC and DEC in plain arithmetic (R305–R308) -/

/-- The low nibble of a byte is its number modulo 16. -/
theorem lowNibble_eq_iff (v k : Byte) : v &&& 0x0F#8 = k ↔ v.toNat % 16 = k.toNat := by
  rw [← BitVec.toNat_inj, BitVec.toNat_and, show (0x0F#8).toNat = 2 ^ 4 - 1 from rfl, Nat.and_two_pow_sub_one_eq_mod]

/-- R305: `inc8` over the numbers. -/
theorem inc8_eq (v : Byte) (f : Flags) :
    inc8 v f = (BitVec.ofNat 8 (v.toNat + 1), ⟨decide (v.toNat = 255), false, decide (v.toNat % 16 = 15), f.c⟩) := by
  have hr : v + 1 = BitVec.ofNat 8 (v.toNat + 1) := by bv_omega
  have hz : (v + 1 == 0#8) = decide (v.toNat = 255) := beq_eq_decide_of_iff (by bv_omega)
  have hh : ((v &&& 0x0F#8) == 0x0F#8) = decide (v.toNat % 16 = 15) :=
    beq_eq_decide_of_iff (lowNibble_eq_iff v _)
  rw [inc8, hz, hh, hr]

/-- R307: `dec8` over the numbers. -/
theorem dec8_eq (v : Byte) (f : Flags) :
    dec8 v f = (BitVec.ofNat 8 (v.toNat + 255), ⟨decide (v.toNat = 1), true, decide (v.toNat % 16 = 0), f.c⟩) := by
  have hr : v - 1 = BitVec.ofNat 8 (v.toNat + 255) := by bv_omega
  have hz : (v - 1 == 0#8) = decide (v.toNat = 1) := beq_eq_decide_of_iff (by bv_omega)
  have hh : ((v &&& 0x0F#8) == 0x00#8) = decide (v.toNat % 16 = 0) :=
    beq_eq_decide_of_iff (lowNibble_eq_iff v _)
  rw [dec8, hz, hh, hr]

/-- Settles O12: each row is `modify` of its operand by `inc8` or `dec8`, which are the plain ones. -/
theorem incrementAndDecrement : Obligations.IncrementAndDecrement := by
  refine ⟨fun y r n s hy => ⟨?_, ?_⟩, fun v s t hv ht => ?_, fun v s t hv ht => ?_, fun s ha => ⟨?_, ?_⟩⟩
  · rw [exec_incLoc_row, hy, State.incLoc, State.modify_reg, inc8_eq]; rfl
  · rw [exec_decLoc_row, hy, State.decLoc, State.modify_reg, dec8_eq]; rfl
  · rw [exec_inc_mhl, State.incLoc, State.modify_of_some inc8 _ hv (by rw [inc8_eq]; exact ht), inc8_eq]; rfl
  · rw [exec_dec_mhl, State.decLoc, State.modify_of_some dec8 _ hv (by rw [dec8_eq]; exact ht), dec8_eq]; rfl
  · rw [exec_inc_mhl, State.incLoc, State.modify_of_hole _ _ ha]
  · rw [exec_dec_mhl, State.decLoc, State.modify_of_hole _ _ ha]

/-! ### DAA and CPL in plain arithmetic (R309, R310) -/

/-- R309: the model's decimal adjust is the one the statements compute, whose Z is that of the integer result. -/
theorem daa_eq_daaRule (a : Byte) (f : Flags) :
    daa a f = (BitVec.ofInt 8 (daaRule a f.n f.h f.c).1,
      ⟨decide ((daaRule a f.n f.h f.c).1 % 256 = 0), f.n, false, (daaRule a f.n f.h f.c).2⟩) := by
  rw [← ofInt8_beq_zero]
  cases hn : f.n
  · simp only [daa, daaRule, hn, Bool.false_eq_true, if_false, BitVec.ofInt_add, ofInt8_toNat, apply_ite (BitVec.ofInt 8)]
    rfl
  · simp only [daa, daaRule, hn, if_true, ofInt8_sub, ofInt8_toNat, apply_ite (BitVec.ofInt 8)]
    rfl

/-- R310: the complement of a byte is its difference from 255. -/
theorem byte_xor_0xFF (a : Byte) : a ^^^ 0xFF#8 = BitVec.ofNat 8 (255 - a.toNat) := by
  rw [show (0xFF#8) = BitVec.allOnes 8 from rfl, BitVec.xor_allOnes]
  apply BitVec.eq_of_toNat_eq
  rw [BitVec.toNat_not, BitVec.toNat_ofNat]
  omega

/-- Settles O13: each instruction is its shape on A or on the flags; DAA and CPL by their arithmetic. -/
theorem accumulatorOperations : Obligations.AccumulatorOperations := by
  refine fun s => ⟨?_, ?_, exec_scf s, exec_ccf s⟩
  · rw [exec_daa, State.adjustA, daa_eq_daaRule]
  · rw [exec_cpl, State.complementA, byte_xor_0xFF]

end Sys2Proof
end

section
/-! PROOFS. The 16-bit arithmetic (44_alu16.md, R320–R323): the row of each pair, and the model's formulas in the
statements' plain arithmetic. -/

namespace Sys2Proof

open Sys2Proof.Machine Sys2Proof.Claims

/-! ### The rows -/

/-- R320: the rows `00 pp 0011` add 1 to the pair. -/
theorem exec_inc16_row (p : BitVec 2) (n : Word) (s : State) :
    exec (opInstr (0b00#2 ++ p ++ 0b0011#4) n) s = .next (s.stepReg16 (Reg16.ofRp p) 1) := by
  obtain rfl | rfl | rfl | rfl := pairCode_cases p <;> rfl

/-- R321: the rows `00 pp 1011` add -1 to the pair. -/
theorem exec_dec16_row (p : BitVec 2) (n : Word) (s : State) :
    exec (opInstr (0b00#2 ++ p ++ 0b1011#4) n) s = .next (s.stepReg16 (Reg16.ofRp p) (-1)) := by
  obtain rfl | rfl | rfl | rfl := pairCode_cases p <;> rfl

/-- R322: the rows `00 pp 1001` add the pair to HL. -/
theorem exec_addHl_row (p : BitVec 2) (n : Word) (s : State) :
    exec (opInstr (0b00#2 ++ p ++ 0b1001#4) n) s = .next (s.addToHl (Reg16.ofRp p)) := by
  obtain rfl | rfl | rfl | rfl := pairCode_cases p <;> rfl

/-- R323: `ADD SP,e8`. -/
theorem exec_add_sp_e8 (e : Byte) (s : State) : exec (.add_sp_e8 e) s = .next (s.addToSp e) := rfl

/-! ### The sums in plain arithmetic -/

/-- R320, R321: a step of a pair over the numbers; -1 is 0xFFFF modulo 2^16. -/
theorem stepReg16_eq (s : State) (r : Reg16) (d : Word) :
    s.stepReg16 r d = (s.setR16 r (BitVec.ofNat 16 ((s.r16 r).toNat + d.toNat))).charge 2 := by
  rw [State.stepReg16, BitVec.add_def]

/-- R322: `addHl` over the numbers. -/
theorem addHl_eq (a b : Word) (f : Flags) :
    addHl a b f = (BitVec.ofNat 16 (a.toNat + b.toNat),
      ⟨f.z, false, below 0xFFF (a.toNat % 0x1000 + b.toNat % 0x1000), below 0xFFFF (a.toNat + b.toNat)⟩) := by
  rw [addHl, BitVec.add_def]

/-- Settles O15: each pair's row is its step or its addition to HL, and the model's sums are the plain ones. -/
theorem wordArithmetic : Obligations.WordArithmetic := by
  refine ⟨fun p n s => ⟨?_, ?_⟩, fun p n s => ?_, fun s e => ?_⟩
  · rw [exec_inc16_row, stepReg16_eq]; rfl
  · rw [exec_dec16_row, stepReg16_eq]; rfl
  · rw [exec_addHl_row, State.addToHl, addHl_eq]
  · rw [exec_add_sp_e8, State.addToSp, addSp_eq_spRule]

end Sys2Proof
end

section
/-! PROOFS. Rotates, shifts and bits (45_rotate_shift_bit.md, R330–R345): the row of each operation and operand, the
model's shifts in the statements' plain arithmetic, and the bits RES and SET leave. -/

namespace Sys2Proof

open Sys2Proof.Machine Sys2Proof.Claims

/-! ### The rows -/

/-- R330–R333: the rows `000 yy 111` rotate A by the operation of code `0yy`. -/
theorem exec_rotateA_row (y : BitVec 2) (n : Word) (s : State) :
    exec (opInstr (0b000#3 ++ y ++ 0b111#3) n) s = .next (s.rotateA (ShiftOp.ofCode (0b0#1 ++ y))) := by
  obtain rfl | rfl | rfl | rfl := pairCode_cases y <;> rfl

/-- R335–R342: the rows `00 y z` after 0xCB: field y is the rotate or shift and field z its operand. -/
theorem exec_shiftLoc_row (y z : BitVec 3) (s : State) :
    exec (cbInstr (0b00#2 ++ y ++ z)) s = .next (s.shiftLoc (ShiftOp.ofCode y) (Loc8.ofCode z)) := by
  obtain rfl | rfl | rfl | rfl | rfl | rfl | rfl | rfl := octalCode_cases y <;>
    obtain rfl | rfl | rfl | rfl | rfl | rfl | rfl | rfl := octalCode_cases z <;> rfl

/-- R343: the rows `01 b z` after 0xCB: BIT of bit b of the operand z. -/
theorem exec_testBit_row (b z : BitVec 3) (s : State) :
    exec (cbInstr (0b01#2 ++ b ++ z)) s = .next (s.testBit b.toNat (Loc8.ofCode z)) := by
  obtain rfl | rfl | rfl | rfl | rfl | rfl | rfl | rfl := octalCode_cases b <;>
    obtain rfl | rfl | rfl | rfl | rfl | rfl | rfl | rfl := octalCode_cases z <;> rfl

/-- R344: the rows `10 b z` after 0xCB: RES of bit b of the operand z. -/
theorem exec_clearBit_row (b z : BitVec 3) (s : State) :
    exec (cbInstr (0b10#2 ++ b ++ z)) s = .next (s.clearBit b.toNat (Loc8.ofCode z)) := by
  obtain rfl | rfl | rfl | rfl | rfl | rfl | rfl | rfl := octalCode_cases b <;>
    obtain rfl | rfl | rfl | rfl | rfl | rfl | rfl | rfl := octalCode_cases z <;> rfl

/-- R345: the rows `11 b z` after 0xCB: SET of bit b of the operand z. -/
theorem exec_setBitAt_row (b z : BitVec 3) (s : State) :
    exec (cbInstr (0b11#2 ++ b ++ z)) s = .next (s.setBitAt b.toNat (Loc8.ofCode z)) := by
  obtain rfl | rfl | rfl | rfl | rfl | rfl | rfl | rfl := octalCode_cases b <;>
    obtain rfl | rfl | rfl | rfl | rfl | rfl | rfl | rfl := octalCode_cases z <;> rfl

/-! ### Rotates and shifts in plain arithmetic (R330–R342) -/

/-- A byte's low bits moved up by k, and a byte below bit k: they share no bit, so they join by addition. -/
theorem toNat_shl_or {k : Nat} (hk : k ≤ 8) (v : Byte) {w : Byte} (hw : w.toNat < 2 ^ k) :
    (v <<< k ||| w).toNat = 2 ^ k * v.toNat % 256 + w.toNat := by
  obtain ⟨m, hm⟩ : 2 ^ k ∣ 2 ^ k * v.toNat % 2 ^ 8 :=
    (Nat.dvd_mod_iff (Nat.pow_dvd_pow 2 hk)).2 ⟨v.toNat, rfl⟩
  rw [BitVec.toNat_or, BitVec.toNat_shiftLeft, Nat.shiftLeft_eq, Nat.mul_comm, hm, Nat.two_pow_add_eq_or_of_lt hw]

/-- R340: the bit SRA keeps in place is bit 7 alone. -/
theorem and_0x80_eq (v : Byte) : v &&& 0x80#8 = (v >>> 7) <<< 7 := by
  rw [BitVec.shiftLeft_ushiftRight]
  rfl

/-- The incoming carry as a byte. -/
theorem toNat_ofNat_bitOf (c : Bool) : (BitVec.ofNat 8 (bitOf c)).toNat = if c then 1 else 0 := by
  cases c <;> rfl

/-- R335–R342: the model's result of each operation is the number the statements compute. -/
theorem toNat_shiftResult (op : ShiftOp) (v : Byte) (c : Bool) :
    (shiftResult op v c).toNat = (shiftRule op v c).1 := by
  have hv := v.isLt
  have hc := toNat_ofNat_bitOf c
  have hr (k : Nat) : (v >>> k).toNat = v.toNat / 2 ^ k := by
    rw [BitVec.toNat_ushiftRight, Nat.shiftRight_eq_div_pow]
  cases op
  case rlc => rw [shiftResult, toNat_shl_or (by decide) v (by rw [hr]; omega), hr]; rfl
  case rrc =>
    rw [shiftResult, BitVec.or_comm, toNat_shl_or (by decide) v (by rw [hr]; omega), hr, shiftRule]; omega
  case rl => rw [shiftResult, toNat_shl_or (by decide) v (by rw [hc]; split <;> decide), hc]; rfl
  case rr =>
    rw [shiftResult, BitVec.or_comm, toNat_shl_or (by decide) _ (by rw [hr]; omega), hr, hc, shiftRule]
    cases c <;> exact Nat.add_comm _ _
  case sla => rw [shiftResult, BitVec.toNat_shiftLeft, Nat.shiftLeft_eq, Nat.mul_comm]; rfl
  case sra =>
    rw [shiftResult, and_0x80_eq, BitVec.or_comm, toNat_shl_or (by decide) _ (by rw [hr]; omega), hr, hr, shiftRule]
    omega
  case swap => rw [shiftResult, toNat_shl_or (by decide) v (by rw [hr]; omega), hr, shiftRule]; omega
  case srl => rw [shiftResult, hr]; rfl

/-- R335–R342: the bit shifted out is bit 7 to the left and bit 0 to the right. -/
theorem shiftCarry_eq (op : ShiftOp) (v : Byte) (c : Bool) : shiftCarry op v = (shiftRule op v c).2 := by
  cases op
  case rlc | rl | sla => exact BitVec.msb_eq_decide v
  case rrc | rr | sra | srl => exact Nat.testBit_zero v.toNat
  case swap => rfl

/-- R335–R342: the result as the byte of its number. -/
theorem shiftResult_eq (op : ShiftOp) (v : Byte) (c : Bool) :
    shiftResult op v c = BitVec.ofNat 8 (shiftRule op v c).1 := by
  rw [← toNat_shiftResult, BitVec.ofNat_toNat, BitVec.setWidth_eq]

/-- R330–R333: a rotate of A in plain arithmetic, its Z always 0. -/
theorem applyRotateA_eq (op : ShiftOp) (v : Byte) (c : Bool) :
    applyRotateA op v c =
      (BitVec.ofNat 8 (shiftRule op v c).1, ⟨false, false, false, (shiftRule op v c).2⟩) := by
  rw [applyRotateA, shiftResult_eq, shiftCarry_eq op v c]

/-- R335–R342: a rotate or shift after 0xCB in plain arithmetic, its Z that of the result. -/
theorem applyShift_eq (op : ShiftOp) (v : Byte) (c : Bool) :
    applyShift op v c =
      (BitVec.ofNat 8 (shiftRule op v c).1, ⟨decide ((shiftRule op v c).1 = 0), false, false, (shiftRule op v c).2⟩) := by
  have hz : (shiftResult op v c == 0#8) = decide ((shiftRule op v c).1 = 0) :=
    beq_eq_decide_of_iff (by rw [← BitVec.toNat_inj, toNat_shiftResult]; rfl)
  rw [applyShift, hz, shiftResult_eq, shiftCarry_eq op v c]

/-- Settles O16: each row is `rotateA` or `shiftLoc` of its operation, and the model's shifts are the plain ones. -/
theorem rotatesAndShifts : Obligations.RotatesAndShifts := by
  refine ⟨fun y n s => ?_, fun y z r s hz => ?_, fun y v s t hv ht => ?_, fun y s ha => ?_⟩
  · rw [exec_rotateA_row, State.rotateA, applyRotateA_eq]
  · rw [exec_shiftLoc_row, hz, State.shiftLoc, State.modify_reg, applyShift_eq]; rfl
  · rw [exec_shiftLoc_row, ofCode_mhl, State.shiftLoc,
      State.modify_of_some _ _ hv (by rw [applyShift_eq]; exact ht), applyShift_eq]; rfl
  · rw [exec_shiftLoc_row, ofCode_mhl, State.shiftLoc, State.modify_of_hole _ _ ha]

/-! ### Single bits (R343–R345) -/

/-- R343: the tested bit is a binary digit of the operand's number. -/
theorem bitFlags_eq (b : Nat) (v : Byte) (f : Flags) :
    bitFlags b v f = ⟨decide (v.toNat / 2 ^ b % 2 = 0), false, true, f.c⟩ := by
  have hz : (!v.getLsbD b) = decide (v.toNat / 2 ^ b % 2 = 0) := by
    rw [← BitVec.testBit_toNat, Nat.testBit_eq_decide_div_mod_eq, ← decide_not, decide_eq_decide]
    exact Nat.mod_two_ne_one
  rw [bitFlags, hz]

/-- R344: RES b leaves the one byte with bit b clear and every other bit as it was. -/
theorem resBit_eq {b : Nat} {v w : Byte} (h : ∀ k, k < 8 → w.getLsbD k = if k = b then false else v.getLsbD k) :
    resBit b v = w := by
  apply BitVec.eq_of_getLsbD_eq
  intro k hk
  rw [h k hk, resBit, ← BitVec.twoPow_eq]
  obtain rfl | hb := eq_or_ne k b
  · simp [hk]
  · simp [hk, hb]

/-- R345: SET b leaves the one byte with bit b set and every other bit as it was. -/
theorem setBit_eq {b : Nat} {v w : Byte} (h : ∀ k, k < 8 → w.getLsbD k = if k = b then true else v.getLsbD k) :
    setBit b v = w := by
  apply BitVec.eq_of_getLsbD_eq
  intro k hk
  rw [h k hk, setBit, ← BitVec.twoPow_eq]
  obtain rfl | hb := eq_or_ne k b
  · simp [hk]
  · simp [hk, hb]

/-- Settles O17: each row is `testBit`, `clearBit` or `setBitAt`; the flags of BIT are the plain ones, and a byte is
known by its bits. -/
theorem bitOperations : Obligations.BitOperations := by
  refine ⟨fun b z r s hz => ?_, fun b v s hv => ?_, fun b s ha => ?_, fun b z r s w hz => ⟨fun hw => ?_, fun hw => ?_⟩,
    fun b s t v w hv ht => ⟨fun hw => ?_, fun hw => ?_⟩, fun b s ha => ⟨?_, ?_⟩⟩
  · rw [exec_testBit_row, hz, State.testBit_reg, bitFlags_eq]
  · rw [exec_testBit_row, ofCode_mhl, State.testBit_of_some _ hv, bitFlags_eq]
  · rw [exec_testBit_row, ofCode_mhl, State.testBit_of_hole _ ha]
  · rw [exec_clearBit_row, hz, State.clearBit, State.modifyPlain_reg, resBit_eq hw]; rfl
  · rw [exec_setBitAt_row, hz, State.setBitAt, State.modifyPlain_reg, setBit_eq hw]; rfl
  · rw [exec_clearBit_row, ofCode_mhl, State.clearBit,
      State.modifyPlain_of_some _ _ hv (by rw [resBit_eq hw]; exact ht)]; rfl
  · rw [exec_setBitAt_row, ofCode_mhl, State.setBitAt,
      State.modifyPlain_of_some _ _ hv (by rw [setBit_eq hw]; exact ht)]; rfl
  · rw [exec_clearBit_row, ofCode_mhl, State.clearBit, State.modifyPlain_of_hole _ _ ha]
  · rw [exec_setBitAt_row, ofCode_mhl, State.setBitAt, State.modifyPlain_of_hole _ _ ha]

end Sys2Proof
end

section
/-! PROOFS. Control transfer (46_control.md, R360–R370): the row of each condition code, the conditions in the
statements' terms, and what a call does where its push completes and where it stops. -/

namespace Sys2Proof

open Sys2Proof.Machine Sys2Proof.Claims

/-! ### Conditions (R18, R205) -/

/-- R18: the model's condition is the one the statements compute from the flags. -/
theorem cond_ofCode (cc : BitVec 2) (s : State) : s.cond (Cond.ofCode cc) = holds cc s.flags := by
  obtain rfl | rfl | rfl | rfl := pairCode_cases cc <;> rfl

/-! ### Jumps (R361–R365) -/

/-- R361: `JP a16`. -/
theorem exec_jp_a16 (a : Word) (s : State) : exec (.jp_a16 a) s = .next (s.jump a 4) := rfl

/-- R362: the rows `110 cc 010` are the conditional absolute jumps. -/
theorem exec_jumpIf_row (cc : BitVec 2) (a : Word) (s : State) :
    exec (opInstr (0b110#3 ++ cc ++ 0b010#3) a) s = .next (s.jumpIf (Cond.ofCode cc) a) := by
  obtain rfl | rfl | rfl | rfl := pairCode_cases cc <;> rfl

/-- R363: `JP HL`. -/
theorem exec_jp_hl (s : State) : exec .jp_hl s = .next (s.jump s.regs.hl 1) := rfl

/-- R364: `JR e8`. -/
theorem exec_jr_e8 (e : Byte) (s : State) : exec (.jr_e8 e) s = .next (s.jumpRel e) := rfl

/-- R365: the rows `001 cc 000` are the conditional relative jumps. -/
theorem exec_jumpRelIf_row (cc : BitVec 2) (n : Word) (s : State) :
    exec (opInstr (0b001#3 ++ cc ++ 0b000#3) n) s = .next (s.jumpRelIf (Cond.ofCode cc) (loByte n)) := by
  obtain rfl | rfl | rfl | rfl := pairCode_cases cc <;> rfl

/-- R364: the target of a relative jump over the integers, modulo 2^16. -/
theorem jumpRel_eq (s : State) (e : Byte) :
    s.jumpRel e = (s.setPc (BitVec.ofInt 16 ((s.regs.pc.toNat : Int) + e.toInt))).charge 3 := by
  rw [State.jumpRel, add_sext16, State.jump]

/-- Settles O18: each condition code's row is the jump on that condition, and a relative target is the plain sum. -/
theorem jumps : Obligations.Jumps := by
  refine ⟨fun s a => exec_jp_a16 a s, fun cc a s => ?_, exec_jp_hl, fun s e => ?_, fun cc n s => ?_⟩
  · rw [exec_jumpIf_row, State.jumpIf, cond_ofCode, State.jump]
  · rw [exec_jr_e8, jumpRel_eq]
  · rw [exec_jumpRelIf_row, State.jumpRelIf, cond_ofCode, jumpRel_eq]

/-! ### Calls (R366, R367, R370) -/

/-- R367: the rows `110 cc 100` are the conditional calls. -/
theorem exec_callIf_row (cc : BitVec 2) (a : Word) (s : State) :
    exec (opInstr (0b110#3 ++ cc ++ 0b100#3) a) s = .next (s.callIf (Cond.ofCode cc) a) := by
  obtain rfl | rfl | rfl | rfl := pairCode_cases cc <;> rfl

/-- R367: a conditional call whose condition holds is a call. -/
theorem exec_callIf_taken {s : State} {cc : BitVec 2} (a : Word) (h : holds cc s.flags = true) :
    exec (opInstr (0b110#3 ++ cc ++ 0b100#3) a) s = .next (s.call a 6) := by
  rw [exec_callIf_row, State.callIf, cond_ofCode, if_pos h]

/-- R367: a conditional call whose condition does not hold only costs 3 machine cycles. -/
theorem exec_callIf_untaken {s : State} {cc : BitVec 2} (a : Word) (h : holds cc s.flags = false) :
    exec (opInstr (0b110#3 ++ cc ++ 0b100#3) a) s = .next (s.charge 3) := by
  rw [exec_callIf_row, State.callIf, cond_ofCode, if_neg (Bool.eq_false_iff.1 h)]

/-- R367: of `CALL Z` and `CALL NZ`, the one whose condition holds is a call. -/
theorem exec_call_z_or_nz (s : State) (m : Word) :
    exec (if s.flags.z then .call_z_a16 m else .call_nz_a16 m) s = .next (s.call m 6) := by
  cases hz : s.flags.z
  case true => exact exec_callIf_taken (cc := 0b01#2) m hz
  case false => exact exec_callIf_taken (cc := 0b00#2) m (congrArg not hz)

/-- R367: of `CALL C` and `CALL NC`, the one whose condition holds is a call. -/
theorem exec_call_c_or_nc (s : State) (m : Word) :
    exec (if s.flags.c then .call_c_a16 m else .call_nc_a16 m) s = .next (s.call m 6) := by
  cases hc : s.flags.c
  case true => exact exec_callIf_taken (cc := 0b11#2) m hc
  case false => exact exec_callIf_taken (cc := 0b10#2) m (congrArg not hc)

/-- Every call of the list is `call`, with its target and its cost. -/
theorem exec_takenCalls {s : State} {m : Word} {i : Instr} {a : Word} {n : Nat} (h : (i, a, n) ∈ takenCalls s m) :
    exec i s = .next (s.call a n) := by
  suffices hall : ∀ x ∈ takenCalls s m, exec x.1 s = .next (s.call x.2.1 x.2.2) from hall _ h
  simp only [takenCalls, List.forall_mem_cons]
  exact ⟨rfl, exec_call_z_or_nz s m, exec_call_c_or_nc s m, rfl, rfl, rfl, rfl, rfl, rfl, rfl, rfl,
    List.forall_mem_nil _⟩

/-- R366: a call whose push completes jumps. -/
theorem call_of_push_ok {s u : State} (a : Word) (n : Nat) (h : s.push16 s.regs.pc = .ok () u) :
    s.call a n = (u.setPc a).charge n := by
  rw [State.call, h, Access.run_ok, State.jump]

/-- R441, D51: a call whose push stops ends in the state of the fault. -/
theorem call_of_push_stop {s u : State} (a : Word) (n : Nat) (h : s.push16 s.regs.pc = .stop u) : s.call a n = u := by
  rw [State.call, h, Access.run_stop]

/-- Settles O19: each taken call is a push of PC and a jump, and the laws of the push say where it completes and where
it stops. -/
theorem calls : Obligations.Calls := by
  refine ⟨fun s t u m i a n hi h1 h2 => ?_, fun cc a s hc => exec_callIf_untaken a hc, fun s m i a n hi h => ?_,
    fun s t m i a n hi h1 h2 => ?_⟩
  · rw [exec_takenCalls hi, call_of_push_ok a n (State.push16_of_some' h1 h2)]
  · rw [exec_takenCalls hi, call_of_push_stop a n (State.push16_of_hole h)]
  · rw [exec_takenCalls hi, call_of_push_stop a n (State.push16_of_hole_second h1 h2)]

end Sys2Proof
end

section
/-! PROOFS. Decoding and encoding (R200–R214): what the rows of the two tables encode to, where each instruction
stands in them, and that decoding and encoding undo each other. -/

namespace Sys2Proof

/-! ### What the rows encode -/

/-- The instruction a main-table row makes of an operand, given as a byte and as a word. -/
def Row.apply (r : Row) (b : Byte) (w : Word) : Instr :=
  match r with
  | .op i => i
  | .n8 f => f b
  | .n16 f => f w

/-- R201, R208: the bytes a row's instructions take, the opcode first. -/
def Row.bytes (r : Row) (op b : Byte) (w : Word) : List Byte :=
  match r with
  | .op _ => [op]
  | .n8 _ => [op, b]
  | .n16 _ => [op, loByte w, hiByte w]

set_option maxRecDepth 8000 in
/-- The encodings of the main table, row after row. -/
theorem mainTable_encode (b : Byte) (w : Word) :
    mainTable.map (fun r => encode (r.apply b w)) =
      mainTable.zipIdx.map fun x => x.1.bytes (BitVec.ofNat 8 x.2) b w := rfl

set_option maxRecDepth 8000 in
/-- The encodings of the prefixed table, row after row. -/
theorem cbTable_encode : cbTable.map encode = (List.range 256).map fun k => [0xCB#8, BitVec.ofNat 8 k] := rfl

/-- R209: every row's instructions encode to the row's opcode and their operand. -/
theorem encode_apply (op b : Byte) (w : Word) : encode ((mainEntry op).apply b w) = (mainEntry op).bytes op b w := by
  have h := congrArg (·[op.toNat]?) (mainTable_encode b w)
  have hop : mainTable[op.toNat]? = some (mainEntry op) := List.getElem?_eq_getElem _
  simpa [List.getElem?_zipIdx, hop] using h

/-- R210: the prefixed table's instructions encode to 0xCB and op2. -/
theorem encode_cbInstr (op2 : Byte) : encode (cbInstr op2) = [0xCB#8, op2] := by
  have h := congrArg (·[op2.toNat]?) cbTable_encode
  have hop : cbTable[op2.toNat]? = some (cbInstr op2) := List.getElem?_eq_getElem _
  have hlt : op2.toNat < 256 := op2.isLt
  simpa [hop, hlt] using h

/-! ### Where each instruction stands -/

/-- The 16 rows of the main table (R209). -/
def mainRows : List (List Row) :=
  [mainRow0, mainRow1, mainRow2, mainRow3, mainRow4, mainRow5, mainRow6, mainRow7,
   mainRow8, mainRow9, mainRowA, mainRowB, mainRowC, mainRowD, mainRowE, mainRowF]

/-- The 16 rows of the prefixed table (R210). -/
def cbRows : List (List Instr) :=
  [cbRow0, cbRow1, cbRow2, cbRow3, cbRow4, cbRow5, cbRow6, cbRow7,
   cbRow8, cbRow9, cbRowA, cbRowB, cbRowC, cbRowD, cbRowE, cbRowF]

/-- The entry for a byte, by its row and its column; a lookup that evaluates faster than one in the whole table. -/
def gridAt {α : Type} (rows : List (List α)) (op : Byte) : Option α := rows[op.toNat / 16]?.bind (·[op.toNat % 16]?)

/-- Rows of 16 entries in one list: entry `k` is in row `k / 16`, column `k % 16`. -/
theorem getElem?_flatten_rows {α : Type} (rows : List (List α)) (h : ∀ r ∈ rows, r.length = 16) (k : Nat) :
    rows.flatten[k]? = rows[k / 16]?.bind (·[k % 16]?) := by
  induction rows generalizing k with
  | nil => simp
  | cons r rest ih =>
    have hr := h r (by simp)
    have hrest : ∀ s ∈ rest, s.length = 16 := fun s hs => h s (by simp [hs])
    rw [List.flatten_cons, List.getElem?_append, hr]
    by_cases hk : k < 16
    · simp [hk, Nat.div_eq_of_lt hk, Nat.mod_eq_of_lt hk]
    · obtain ⟨j, rfl⟩ := Nat.exists_eq_add_of_le (Nat.le_of_not_lt hk)
      rw [if_neg hk, Nat.add_sub_cancel_left, ih hrest, Nat.add_mod_left, Nat.add_div_left j (by decide)]
      simp

theorem gridAt_mainRows (op : Byte) : gridAt mainRows op = some (mainEntry op) := by
  have hflat : mainRows.flatten = mainTable := by simp [mainRows, mainTable]
  have hlen : ∀ r ∈ mainRows, r.length = 16 := by decide
  rw [gridAt, ← getElem?_flatten_rows mainRows hlen, hflat]
  exact List.getElem?_eq_getElem _

theorem gridAt_cbRows (op2 : Byte) : gridAt cbRows op2 = some (cbInstr op2) := by
  have hflat : cbRows.flatten = cbTable := by simp [cbRows, cbTable]
  have hlen : ∀ r ∈ cbRows, r.length = 16 := by decide
  rw [gridAt, ← getElem?_flatten_rows cbRows hlen, hflat]
  exact List.getElem?_eq_getElem _

/-- Whether a main-table row makes an instruction, of some operand. -/
def Row.Makes (r : Row) (i : Instr) : Prop :=
  match r with
  | .op j => j = i
  | .n8 f => ∃ b, f b = i
  | .n16 f => ∃ w, f w = i

/-- Whether the tables have an instruction where a byte list says: after 0xCB in the prefixed table, else in the main
table's row of the first byte. -/
def InTables (bytes : List Byte) (i : Instr) : Prop :=
  match bytes with
  | [] => False
  | 0xCB#8 :: op2 :: _ => gridAt cbRows op2 = some i
  | op :: _ => ∃ r, gridAt mainRows op = some r ∧ r.Makes i

/-- Every instruction but the bare 0xCB row stands in the tables where its encoding says: in the prefixed table, or in
the main table in a row without or with an operand. -/
theorem inTables_encode (i : Instr) (h : WellFormed i = true) : InTables (encode i) i := by
  cases i
  case prefix_cb => cases h
  all_goals first
    | exact rfl
    | exact ⟨_, rfl, rfl⟩
    | exact ⟨_, rfl, _, rfl⟩

/-- The rows that make a well-formed instruction, by table. -/
theorem exists_entry (i : Instr) (h : WellFormed i = true) :
    (∃ op2, cbInstr op2 = i) ∨ ∃ op, (mainEntry op).Makes i := by
  have hin := inTables_encode i h
  unfold InTables at hin
  split at hin
  · exact hin.elim
  · next op2 _ _ => exact .inl ⟨op2, Option.some.inj ((gridAt_cbRows op2).symm.trans hin)⟩
  · next op _ _ _ =>
    obtain ⟨r, hr, hm⟩ := hin
    obtain rfl : mainEntry op = r := Option.some.inj ((gridAt_mainRows op).symm.trans hr)
    exact .inr ⟨op, hm⟩

/-! ### Decoding what was encoded, and encoding what was decoded -/

/-- R214: a well-formed instruction is left as it is by the second table. -/
theorem resolvePrefix_of_wellFormed {i : Instr} (h : WellFormed i = true) : resolvePrefix i = i := by
  unfold resolvePrefix
  split
  · cases h
  · rfl

set_option maxRecDepth 4000 in
/-- R210: every entry of the prefixed table is well-formed. -/
theorem wellFormed_cbInstr (op2 : Byte) : WellFormed (cbInstr op2) = true := by
  have hall : cbTable.all WellFormed = true := rfl
  exact List.all_eq_true.1 hall _ (List.getElem_mem _)

theorem wellFormed_resolvePrefix (i : Instr) : WellFormed (resolvePrefix i) = true := by
  unfold resolvePrefix
  split
  · exact wellFormed_cbInstr _
  · next h =>
    unfold WellFormed Instr.isPrefix
    split
    · exact (h _ rfl).elim
    · rfl

/-- R214: the prefixed table's instruction has the encoding of the bare 0xCB row it resolves. -/
theorem encode_resolvePrefix (i : Instr) : encode (resolvePrefix i) = encode i := by
  unfold resolvePrefix
  split
  · exact encode_cbInstr _
  · rfl

/-- Settles O1: the entry of each instruction, whose bytes the decoder takes back to it. -/
theorem decodeOfEncode : Obligations.DecodeOfEncode := by
  intro i rest h
  obtain ⟨op2, rfl⟩ | ⟨op, hm⟩ := exists_entry i h
  · rw [encode_cbInstr]
    exact decode_cb op2 rest
  · have hi := resolvePrefix_of_wellFormed h
    have he := encode_apply op
    cases hrow : mainEntry op with
    | op j =>
      rw [hrow] at hm he
      obtain rfl : j = i := hm
      rw [show encode j = [op] from he 0 0, List.singleton_append, decode_of_op hrow, hi]
    | n8 f =>
      rw [hrow] at hm he
      obtain ⟨b, rfl⟩ := hm
      rw [show encode (f b) = [op, b] from he b 0, List.cons_append, List.singleton_append, decode_of_n8 hrow, hi]
    | n16 f =>
      rw [hrow] at hm he
      obtain ⟨w, rfl⟩ := hm
      rw [show encode (f w) = [op, loByte w, hiByte w] from he 0 w, List.cons_append, List.cons_append,
        List.singleton_append, decode_of_n16 hrow, mkWord_hi_lo, hi]

/-- Settles O2: the decoder's row fixes the bytes that were read, and the row's instruction encodes to them. -/
theorem encodeOfDecode : Obligations.EncodeOfDecode := by
  intro bytes rest i h
  obtain _ | ⟨op, tail⟩ := bytes
  · cases h
  have he := encode_apply op
  cases hrow : mainEntry op with
  | op j =>
    rw [hrow] at he
    rw [decode_of_op hrow] at h
    cases h
    rw [encode_resolvePrefix, show encode j = [op] from he 0 0]
    exact ⟨wellFormed_resolvePrefix _, rfl⟩
  | n8 f =>
    rw [hrow] at he
    match tail, h with
    | [], h => rw [decode_truncated op [] (by rw [instrLength_of_n8 hrow]; decide)] at h; cases h
    | b :: tail, h =>
      rw [decode_of_n8 hrow] at h
      cases h
      rw [encode_resolvePrefix, show encode (f b) = [op, b] from he b 0]
      exact ⟨wellFormed_resolvePrefix _, rfl⟩
  | n16 f =>
    rw [hrow] at he
    match tail, h with
    | [], h => rw [decode_truncated op [] (by rw [instrLength_of_n16 hrow]; decide)] at h; cases h
    | [lo], h => rw [decode_truncated op [lo] (by rw [instrLength_of_n16 hrow]; exact Nat.lt_succ_self 2)] at h; cases h
    | lo :: hi :: tail, h =>
      rw [decode_of_n16 hrow] at h
      cases h
      rw [encode_resolvePrefix, show encode (f _) = [op, _, _] from he 0 (mkWord hi lo), loByte_mkWord, hiByte_mkWord]
      exact ⟨wellFormed_resolvePrefix _, rfl⟩

/-- Settles O4: each word by its row. -/
theorem sampleWordsDecode : Obligations.SampleWordsDecode :=
  ⟨rfl, rfl, rfl, rfl, rfl, rfl, rfl, rfl⟩

end Sys2Proof
end

section
/-! PROOFS. Invariants of the CPU's part of a step: what the CPU's operations and the events leave of the memories,
the PPU, the DMA engine and the cartridge but for bus writes, and the invariants of ROM, of F's low nibble and of the
EI rule. -/

namespace Sys2Proof

open Sys2Proof.Machine Sys2Proof.Claims

/-! ### What the CPU's operations leave outside the CPU -/

/-- The same memories, PPU, DMA engine, cartridge and colour mode: what only a bus write and the clock's events
change. -/
structure SameOutside (s t : State) : Prop where
  wram : t.wram = s.wram
  hram : t.hram = s.hram
  ppu : t.ppu = s.ppu
  dma : t.dma = s.dma
  cart : t.cart = s.cart
  colorMode : t.colorMode = s.colorMode

/-- What a property of the state outside the CPU needs for the CPU's part of a step to keep it: it depends on nothing
else, and a bus write and the clock keep it. -/
structure OutsideProperty (P : State → Prop) : Prop where
  congr : ∀ s t, P s → SameOutside s t → P t
  write : ∀ s t a v, s.busWrite a v = some t → P s → P t
  clock : ∀ s k, P s → P { s with cart := s.cart.rtcAdvance k }

variable {P : State → Prop}

theorem OutsideProperty.effect (hP : OutsideProperty P) {s t : State} (h : Effect s t) (hs : P s) : P t := by
  induction h with
  | refl => exact hs
  | write a v _ hw ih => exact hP.write _ _ a v hw ih
  | afterRead a _ ih => exact hP.congr _ _ ih (by constructor <;> simp)
  | setR8 _ _ _ ih | setR16 _ _ _ ih | fault _ _ _ ih => exact hP.congr _ _ ih ⟨rfl, rfl, rfl, rfl, rfl, rfl⟩
  | setFlags _ _ ih | setPc _ _ ih | charge _ _ ih => exact hP.congr _ _ ih ⟨rfl, rfl, rfl, rfl, rfl, rfl⟩

theorem sameOutside_enableInterrupts (s : State) : SameOutside s s.enableInterrupts := by
  unfold State.enableInterrupts
  split <;> exact ⟨rfl, rfl, rfl, rfl, rfl, rfl⟩

theorem sameOutside_applyPendingEI (s : State) : SameOutside s s.applyPendingEI := by
  unfold State.applyPendingEI
  split <;> exact ⟨rfl, rfl, rfl, rfl, rfl, rfl⟩

/-- The events of a gap and the CPU's part of a dot keep a property of the state outside the CPU. -/
theorem OutsideProperty.cpuEffect (hP : OutsideProperty P) (s t : State) (h : CpuEffect s t) (hs : P s) : P t := by
  induction h with
  | refl => exact hs
  | effect _ he ih => exact hP.effect he ih
  | rtc k _ ih => exact hP.clock _ k ih
  | enable _ ih => exact hP.congr _ _ ih (sameOutside_enableInterrupts _)
  | pendingEI _ ih => exact hP.congr _ _ ih (sameOutside_applyPendingEI _)
  | runState _ _ ih | cycles _ _ ih | ifr _ _ ih | external _ _ ih =>
    exact hP.congr _ _ ih ⟨rfl, rfl, rfl, rfl, rfl, rfl⟩
  | imeOff _ ih | imeOn _ ih | disable _ ih => exact hP.congr _ _ ih ⟨rfl, rfl, rfl, rfl, rfl, rfl⟩

/-! ### ROM, the bank counts and the colour mode (R68, R106) -/

/-- A clock event changes a cartridge's registers alone. -/
theorem rtcAdvance_fixed (c : Cart) (k : Nat) :
    (c.rtcAdvance k).rom = c.rom ∧ (c.rtcAdvance k).romBanks = c.romBanks ∧
      (c.rtcAdvance k).ramBanks = c.ramBanks ∧ (c.rtcAdvance k).ram = c.ram := by
  unfold Cart.rtcAdvance
  split
  · split <;> exact ⟨rfl, rfl, rfl, rfl⟩
  · exact ⟨rfl, rfl, rfl, rfl⟩

/-- The parts fixed at construction are those of `s`. -/
def FixedAs (s t : State) : Prop :=
  t.cart.rom = s.cart.rom ∧ t.cart.romBanks = s.cart.romBanks ∧ t.cart.ramBanks = s.cart.ramBanks ∧
    t.colorMode = s.colorMode

theorem outsideProperty_fixedAs (s : State) : OutsideProperty (FixedAs s) where
  congr t u := by
    rintro ⟨hrom, hrb, hab, hc⟩ h
    exact ⟨h.cart ▸ hrom, h.cart ▸ hrb, h.cart ▸ hab, h.colorMode.trans hc⟩
  write t u a v h := by
    rintro ⟨hrom, hrb, hab, hc⟩
    obtain ⟨hrom', hrb', hab'⟩ := State.busWrite_rom h
    obtain ⟨-, -, -, -, -, hc', -, -⟩ := State.busWrite_cpu h
    exact ⟨hrom'.trans hrom, hrb'.trans hrb, hab'.trans hab, hc'.trans hc⟩
  clock t k := by
    rintro ⟨hrom, hrb, hab, hc⟩
    obtain ⟨hrom', hrb', hab', -⟩ := rtcAdvance_fixed t.cart k
    exact ⟨hrom'.trans hrom, hrb'.trans hrb, hab'.trans hab, hc⟩

/-- The DMA engine's dot writes OAM and its own counters alone. -/
theorem dmaStep_frame (s : State) :
    s.dmaStep.wram = s.wram ∧ s.dmaStep.hram = s.hram ∧ s.dmaStep.cart = s.cart ∧ s.dmaStep.colorMode = s.colorMode ∧
      s.dmaStep.regs = s.regs ∧ s.dmaStep.ime = s.ime ∧ s.dmaStep.pendingEI = s.pendingEI ∧
      s.dmaStep.runState = s.runState ∧ s.dmaStep.cyclesRemaining = s.cyclesRemaining ∧ s.dmaStep.ie = s.ie ∧
      s.dmaStep.external = s.external := by
  unfold State.dmaStep
  split
  · simp
  split
  · simp
  dsimp only
  split <;> simp [State.dmaCopy]

/-- Settles O24: bus writes and clock events leave what construction fixed, and nothing else touches it. -/
theorem romIsImmutable : Obligations.RomIsImmutable := by
  intro s t h
  refine step_keeps (P := FixedAs s) (outsideProperty_fixedAs s).cpuEffect (fun _ hu => hu) (fun u hu => ?_) h
    ⟨rfl, rfl, rfl, rfl⟩
  obtain ⟨-, -, hcart, hcolor, -⟩ := dmaStep_frame u
  rw [FixedAs, hcart, hcolor]
  exact hu

/-! ### F's low nibble (R33) -/

/-- The low nibble of F is stored as 0 where the low byte of AF has its low nibble 0. -/
theorem flagNibble_iff (w : Word) : w &&& 0x000F#16 = 0#16 ↔ loByte w &&& 0x0F#8 = 0#8 := by
  have hlo : loByte (w &&& 0x000F#16) = loByte w &&& 0x0F#8 := loByte_and _ _
  have hhi : hiByte (w &&& 0x000F#16) = hiByte 0#16 := by
    rw [hiByte_and, show hiByte 0x000F#16 = 0#8 from rfl]
    exact BitVec.and_zero
  exact ⟨fun h => hlo.symm.trans (congrArg loByte h), fun h => word_ext hhi (hlo.trans h)⟩

theorem flagNibbleClear_iff (s : State) : s.flagNibbleClear ↔ loByte s.regs.af &&& 0x0F#8 = 0#8 := flagNibble_iff _

theorem toByte_low (f : Flags) : f.toByte &&& 0x0F#8 = 0#8 := by
  obtain ⟨z, n, h, c⟩ := f
  revert z n h c
  decide

theorem flagNibbleClear_congr {s t : State} (h : t.regs = s.regs) (hs : s.flagNibbleClear) : t.flagNibbleClear := by
  rw [State.flagNibbleClear, h]
  exact hs

/-- Every named operation keeps F's low nibble 0: the writes of A leave F, and those of AF and of the flags mask it. -/
theorem flagNibbleClear_effect {s t : State} (h : Effect s t) (hs : s.flagNibbleClear) : t.flagNibbleClear := by
  induction h with
  | refl => exact hs
  | setR8 r v _ ih =>
    rw [flagNibbleClear_iff] at ih ⊢
    cases r with
    | a => simpa [Regs.setR8] using ih
    | b | c | d | e | h | l => exact ih
  | setR16 r v _ ih =>
    cases r with
    | af =>
      rw [State.flagNibbleClear]
      show v &&& 0xFFF0#16 &&& 0x000F#16 = 0#16
      rw [BitVec.and_assoc]
      exact BitVec.and_zero
    | bc | de | hl | sp => exact ih
  | setFlags f _ _ =>
    rw [flagNibbleClear_iff]
    simpa [State.setFlags] using toByte_low f
  | write a v _ hw ih => exact flagNibbleClear_congr (State.busWrite_cpu hw).1 ih
  | setPc _ _ ih | charge _ _ ih | fault _ _ _ ih => exact ih
  | afterRead a _ ih => exact flagNibbleClear_congr (State.afterRead_regs _ a) ih

theorem regs_enableInterrupts (s : State) : s.enableInterrupts.regs = s.regs := by
  unfold State.enableInterrupts
  split <;> rfl

theorem regs_applyPendingEI (s : State) : s.applyPendingEI.regs = s.regs := by
  unfold State.applyPendingEI
  split <;> rfl

theorem flagNibbleClear_cpuEffect (s t : State) (h : CpuEffect s t) (hs : s.flagNibbleClear) : t.flagNibbleClear := by
  induction h with
  | refl => exact hs
  | effect _ he ih => exact flagNibbleClear_effect he ih
  | enable _ ih => exact flagNibbleClear_congr (regs_enableInterrupts _) ih
  | pendingEI _ ih => exact flagNibbleClear_congr (regs_applyPendingEI _) ih
  | runState _ _ ih | cycles _ _ ih | ifr _ _ ih | external _ _ ih | rtc _ _ ih => exact ih
  | imeOff _ ih | imeOn _ ih | disable _ ih => exact ih

/-- Settles O34: the CPU's operations keep the nibble, and the PPU and the DMA engine leave the registers. -/
theorem flagNibbleStaysClear : Obligations.FlagNibbleStaysClear := by
  intro s t hs h
  refine step_keeps flagNibbleClear_cpuEffect (fun _ hu => hu) (fun u hu => ?_) h hs
  obtain ⟨-, -, -, -, hregs, -⟩ := dmaStep_frame u
  exact flagNibbleClear_congr hregs hu

/-! ### IME and the pending EI (R431) -/

theorem eiInvariant_congr {s t : State} (hi : t.ime = s.ime) (hp : t.pendingEI = s.pendingEI) (hs : s.eiInvariant) :
    t.eiInvariant := by
  rw [State.eiInvariant, hi, hp]
  exact hs

/-- The named operations write neither IME nor PendingEI. -/
theorem effect_control {s t : State} (h : Effect s t) : t.ime = s.ime ∧ t.pendingEI = s.pendingEI := by
  induction h with
  | refl => exact ⟨rfl, rfl⟩
  | write a v _ hw ih =>
    obtain ⟨-, hi, hp, -⟩ := State.busWrite_cpu hw
    exact ⟨hi.trans ih.1, hp.trans ih.2⟩
  | afterRead a _ ih => simpa using ih
  | setR8 _ _ _ ih | setR16 _ _ _ ih | fault _ _ _ ih => exact ih
  | setFlags _ _ ih | setPc _ _ ih | charge _ _ ih => exact ih

/-- EI leaves the rule standing: it makes an EI pending only while IME is 0. -/
theorem eiInvariant_enableInterrupts {s : State} (hs : s.eiInvariant) : s.enableInterrupts.eiInvariant := by
  unfold State.enableInterrupts
  split
  · next h => exact fun hi => absurd (h.1.symm.trans hi) (by decide)
  · exact hs

/-- The deferred transition leaves the rule standing: a pending EI means that IME is 0. -/
theorem eiInvariant_applyPendingEI {s : State} (hs : s.eiInvariant) : s.applyPendingEI.eiInvariant := by
  obtain ⟨-, h⟩ | ⟨hp, h⟩ | ⟨-, h⟩ := s.applyPendingEI_cases <;> rw [h]
  · exact hs
  · exact fun hi => absurd (hp.symm.trans (hs hi)) (by decide)
  · exact fun _ => rfl

theorem eiInvariant_cpuEffect (s t : State) (h : CpuEffect s t) (hs : s.eiInvariant) : t.eiInvariant := by
  induction h with
  | refl => exact hs
  | effect _ he ih => exact eiInvariant_congr (effect_control he).1 (effect_control he).2 ih
  | enable _ ih => exact eiInvariant_enableInterrupts ih
  | pendingEI _ ih => exact eiInvariant_applyPendingEI ih
  | imeOff _ _ => exact fun hi => absurd (show false = true from hi) (by decide)
  | imeOn _ _ | disable _ _ => exact fun _ => rfl
  | runState _ _ ih | cycles _ _ ih | ifr _ _ ih | external _ _ ih | rtc _ _ ih => exact ih

/-- Settles O35: every operation that sets IME drops a pending EI, and EI waits only while IME is 0. -/
theorem enableInvariantKept : Obligations.EnableInvariantKept := by
  intro s t hs h
  refine step_keeps eiInvariant_cpuEffect (fun _ hu => hu) (fun u hu => ?_) h hs
  obtain ⟨-, -, -, -, -, hi, hp, -⟩ := dmaStep_frame u
  exact eiInvariant_congr hi hp hu

/-- Settles O27: the CPU's part of a step always answers, since fetched bytes decode and no instruction is refused. -/
theorem everyStepAnswers : Obligations.EveryStepAnswers := by
  intro s
  obtain ⟨u, -, h | ⟨-, h⟩⟩ := step_cases s
  · exact ⟨_, h⟩
  · exact ⟨_, h⟩

end Sys2Proof
end

section
/-! PROOFS. One dot of the PPU: what the work of each mode leaves, and the invariants of the memories, of the line and
the scan, of the pixel pipeline and of the DMA counters. -/

namespace Sys2Proof

open Sys2Proof.Machine Sys2Proof.Claims

/-! ### What a dot leaves of the PPU -/

/-- The same memories, line position and registers, and a framebuffer that stays canonical: what the work of a dot
inside a line leaves (R460). -/
structure SameLine (p q : Ppu) : Prop where
  vram : q.vram = p.vram
  oam : q.oam = p.oam
  bgPalRam : q.bgPalRam = p.bgPalRam
  objPalRam : q.objPalRam = p.objPalRam
  lcdc : q.lcdc = p.lcdc
  ly : q.ly = p.ly
  dot : q.dot = p.dot
  statLine : q.statLine = p.statLine
  framebuffer : Cells.wf p.framebuffer = true → Cells.wf q.framebuffer = true

theorem SameLine.refl (p : Ppu) : SameLine p p := ⟨rfl, rfl, rfl, rfl, rfl, rfl, rfl, rfl, id⟩

theorem SameLine.trans {p q r : Ppu} (h : SameLine p q) (k : SameLine q r) : SameLine p r :=
  ⟨k.vram.trans h.vram, k.oam.trans h.oam, k.bgPalRam.trans h.bgPalRam, k.objPalRam.trans h.objPalRam,
    k.lcdc.trans h.lcdc, k.ly.trans h.ly, k.dot.trans h.dot, k.statLine.trans h.statLine, k.framebuffer ∘ h.framebuffer⟩

/-- The same mode and scan position, and as many selected objects: what the pixel pipeline leaves besides (R470). -/
structure SameScan (p q : Ppu) : Prop where
  mode : q.mode = p.mode
  scanIndex : q.scanIndex = p.scanIndex
  scanMicro : q.scanMicro = p.scanMicro
  selected : q.selected.length = p.selected.length

theorem SameScan.refl (p : Ppu) : SameScan p p := ⟨rfl, rfl, rfl, rfl⟩

theorem SameScan.trans {p q r : Ppu} (h : SameScan p q) (k : SameScan q r) : SameScan p r :=
  ⟨k.mode.trans h.mode, k.scanIndex.trans h.scanIndex, k.scanMicro.trans h.scanMicro, k.selected.trans h.selected⟩

/-- What the pixel pipeline leaves of the PPU. -/
def Draws (p q : Ppu) : Prop := SameLine p q ∧ SameScan p q

theorem Draws.refl (p : Ppu) : Draws p p := ⟨.refl p, .refl p⟩

theorem Draws.trans {p q r : Ppu} (h : Draws p q) (k : Draws q r) : Draws p r := ⟨h.1.trans k.1, h.2.trans k.2⟩

variable (color : Bool) (p : Ppu)

theorem draws_objFetcherStep : Draws p (p.objFetcherStep color) := by
  unfold Ppu.objFetcherStep
  dsimp only
  split
  case h_6 => exact ⟨⟨rfl, rfl, rfl, rfl, rfl, rfl, rfl, rfl, id⟩, rfl, rfl, rfl, List.length_map _⟩
  all_goals exact ⟨⟨rfl, rfl, rfl, rfl, rfl, rfl, rfl, rfl, id⟩, rfl, rfl, rfl, rfl⟩

theorem draws_windowCheck : Draws p p.windowCheck := by
  unfold Ppu.windowCheck
  split
  · exact ⟨⟨rfl, rfl, rfl, rfl, rfl, rfl, rfl, rfl, id⟩, rfl, rfl, rfl, rfl⟩
  · exact .refl p

theorem draws_bgFetcherStep : Draws p (p.bgFetcherStep color) := by
  unfold Ppu.bgFetcherStep
  split <;> (try split) <;> exact ⟨⟨rfl, rfl, rfl, rfl, rfl, rfl, rfl, rfl, id⟩, rfl, rfl, rfl, rfl⟩

theorem draws_outputPixel : Draws p (p.outputPixel color) := by
  unfold Ppu.outputPixel
  split
  · exact .refl p
  split
  · exact ⟨⟨rfl, rfl, rfl, rfl, rfl, rfl, rfl, rfl, id⟩, rfl, rfl, rfl, rfl⟩
  · exact ⟨⟨rfl, rfl, rfl, rfl, rfl, rfl, rfl, rfl, fun h => Cells.wf_write h _ _⟩, rfl, rfl, rfl, rfl⟩

/-- `DrawDot()`: one of its four courses (R470). -/
theorem drawDot_cases {P : Ppu → Prop} (hobj : p.objf.active = true → P (p.objFetcherStep color))
    (hstart : ∀ o, p.objf.active = false → p.windowCheck.dueObject = some o →
      P ((p.windowCheck.startObjectFetch o).objFetcherStep color))
    (hwait : p.objf.active = false → P (p.windowCheck.bgFetcherStep color))
    (hout : p.objf.active = false → P ((p.windowCheck.bgFetcherStep color).outputPixel color)) :
    P (p.drawDot color) := by
  unfold Ppu.drawDot
  split
  · next h => exact hobj h
  next h =>
    have hoff := Bool.eq_false_iff.2 h
    dsimp only
    split
    · next o ho =>
      split
      · exact hstart o hoff ho
      · exact hwait hoff
    · exact hout hoff

theorem draws_drawDot : Draws p (p.drawDot color) := by
  have hw := draws_windowCheck p
  have hs (o : ObjEntry) : Draws p (p.windowCheck.startObjectFetch o) :=
    hw.trans ⟨⟨rfl, rfl, rfl, rfl, rfl, rfl, rfl, rfl, id⟩, rfl, rfl, rfl, rfl⟩
  have hf := hw.trans (draws_bgFetcherStep color _)
  exact drawDot_cases color p (fun _ => draws_objFetcherStep color p)
    (fun o _ _ => (hs o).trans (draws_objFetcherStep color _)) (fun _ => hf)
    (fun _ => hf.trans (draws_outputPixel color _))

theorem sameLine_oamScanDot : SameLine p p.oamScanDot := by
  unfold Ppu.oamScanDot
  split <;> exact ⟨rfl, rfl, rfl, rfl, rfl, rfl, rfl, rfl, id⟩

theorem mode_oamScanDot : p.oamScanDot.mode = p.mode := by
  unfold Ppu.oamScanDot
  split <;> rfl

/-- `Ppu.modeDot`: the work of the mode on a visible line, else nothing (R460). -/
theorem modeDot_cases {P : Ppu → Prop} (hscan : p.mode = .oamScan → p.ly.toNat < 144 → P p.oamScanDot)
    (hdraw : p.mode = .drawing → p.ly.toNat < 144 → P (p.drawDot color))
    (hidle : (p.mode = .oamScan ∨ p.mode = .drawing → 144 ≤ p.ly.toNat) → P p) : P (p.modeDot color) := by
  unfold Ppu.modeDot
  split
  · next hly =>
    split
    · next hm => exact hscan hm hly
    · next hm => exact hdraw hm hly
    all_goals next hm => exact hidle (by rw [hm]; rintro (h | h) <;> cases h)
  · next hly => exact hidle fun _ => Nat.le_of_not_lt hly

theorem sameLine_modeDot : SameLine p (p.modeDot color) :=
  modeDot_cases color p (fun _ _ => sameLine_oamScanDot p) (fun _ _ => (draws_drawDot color p).1) fun _ => .refl p

theorem mode_modeDot : (p.modeDot color).mode = p.mode :=
  modeDot_cases color p (P := fun q => q.mode = p.mode) (fun _ _ => mode_oamScanDot p)
    (fun _ _ => (draws_drawDot color p).2.mode) fun _ => rfl

/-- `Ppu.modeChange`: mode 3 begins at dot 80 of mode 2 and ends with pixel 160 (R460). -/
theorem modeChange_cases {P : Ppu → Prop} (hstart : p.mode = .oamScan → p.dot = 80 → P p.startMode3)
    (hend : p.mode = .drawing → p.lx = 160 → P p.endMode3)
    (hkeep : (p.mode = .oamScan → p.dot ≠ 80) → (p.mode = .drawing → p.lx ≠ 160) → P p) : P p.modeChange := by
  unfold Ppu.modeChange
  split
  · next h => exact hstart h.1 h.2
  next h1 =>
    split
    · next h => exact hend h.1 h.2
    · next h2 => exact hkeep (fun hm hd => h1 ⟨hm, hd⟩) fun hm hl => h2 ⟨hm, hl⟩

theorem sameLine_modeChange : SameLine p p.modeChange :=
  modeChange_cases p (fun _ _ => ⟨rfl, rfl, rfl, rfl, rfl, rfl, rfl, rfl, id⟩)
    (fun _ _ => ⟨rfl, rfl, rfl, rfl, rfl, rfl, rfl, rfl, id⟩) fun _ _ => .refl p

/-- The number of the line after `ly` (R462). -/
def nextLy (ly : Byte) : Byte := if ly.toNat = 153 then 0#8 else ly + 1

/-- `NextLine()`: line 144 begins mode 1, a visible line begins with `BeginLine()`, any other line goes on (R462). -/
theorem nextLine_cases {P : Ppu → Prop}
    (hvblank : (nextLy p.ly).toNat = 144 → P { p with ly := nextLy p.ly, mode := .vblank })
    (hvisible : (nextLy p.ly).toNat < 144 → P { p with ly := nextLy p.ly }.beginLine)
    (hlater : 144 < (nextLy p.ly).toNat → P { p with ly := nextLy p.ly }) : P p.nextLine.1 := by
  unfold Ppu.nextLine
  show P (if (nextLy p.ly).toNat = 144 then _ else if (nextLy p.ly).toNat < 144 then _ else _ : Ppu × Bool).1
  split
  · next h => exact hvblank h
  split
  · next h => exact hvisible h
  · exact hlater (by omega)

/-- `Ppu.lineEnd`: at dot 456 the next line begins (R460). -/
theorem lineEnd_cases {P : Ppu → Prop} (hend : p.dot = 456 → P { p with dot := 0 }.nextLine.1)
    (hkeep : p.dot ≠ 456 → P p) : P p.lineEnd.1 := by
  unfold Ppu.lineEnd
  split
  · next h => exact hend h
  · next h => exact hkeep h

/-- The PPU after the work, the dot count and the mode change of a dot of an LCD that is on. -/
def dotDone : Ppu := { p.modeDot color with dot := (p.modeDot color).dot + 1 }.modeChange

/-- `PpuStep()` of an LCD that is on (R460): the line may end, and the STAT line follows. -/
theorem step_on (h : p.lcdcBit 7 = true) :
    p.step color = ({ (dotDone color p).lineEnd.1 with statLine := (dotDone color p).lineEnd.1.statCondition },
      requestBits (dotDone color p).lineEnd.2
        ((dotDone color p).lineEnd.1.statCondition && !(dotDone color p).lineEnd.1.statLine)) := by
  unfold Ppu.step
  rw [if_pos h]
  rfl

theorem step_off (h : p.lcdcBit 7 = false) : p.step color = (p, 0#5) := by
  unfold Ppu.step
  rw [if_neg (by rw [h]; decide)]

/-- What holds of the PPU after the work of a dot, after its mode change and after a line's end holds after its step;
the STAT line's level is not looked at. -/
theorem step_keeps_ppu {P : Ppu → Prop} (hoff : P p) (hon : P (dotDone color p).lineEnd.1)
    (hstat : ∀ q b, P q → P { q with statLine := b }) : P (p.step color).1 := by
  by_cases h : p.lcdcBit 7 = true
  · rw [step_on color p h]
    exact hstat _ _ hon
  · rw [step_off color p (Bool.eq_false_iff.2 h)]
    exact hoff

/-! ### The canonical form of the memories -/

theorem SameLine.memoriesWf {p q : Ppu} (h : SameLine p q) (hp : p.memoriesWf = true) : q.memoriesWf = true := by
  simp only [Ppu.memoriesWf, Bool.and_eq_true, h.vram, h.oam, h.bgPalRam, h.objPalRam] at hp ⊢
  obtain ⟨hmem, hfb⟩ := hp
  exact ⟨hmem, h.framebuffer hfb⟩

theorem memoriesWf_step (h : p.memoriesWf = true) : (p.step color).1.memoriesWf = true := by
  have hdone : (dotDone color p).memoriesWf = true :=
    (sameLine_modeChange _).memoriesWf ((sameLine_modeDot color p).memoriesWf h)
  refine step_keeps_ppu color p (P := fun q => q.memoriesWf = true) h ?_ fun _ _ hq => hq
  refine lineEnd_cases _ (P := fun q => q.memoriesWf = true) (fun _ => ?_) fun _ => hdone
  exact nextLine_cases _ (P := fun q => q.memoriesWf = true) (fun _ => hdone) (fun _ => hdone) fun _ => hdone

theorem memoriesWf_ppuStep (s : State) (h : s.memoriesWf = true) : s.ppuStep.memoriesWf = true := by
  rw [State.memoriesWf_iff] at h ⊢
  obtain ⟨hw, hh, hp, hrom, hram⟩ := h
  exact ⟨hw, hh, memoriesWf_step _ _ hp, hrom, hram⟩

theorem memoriesWf_dmaCopy (s : State) (h : s.memoriesWf = true) : s.dmaCopy.memoriesWf = true := by
  rw [State.memoriesWf_iff] at h ⊢
  obtain ⟨hw, hh, hp, hrom, hram⟩ := h
  refine ⟨hw, hh, ?_, hrom, hram⟩
  simp only [Ppu.memoriesWf, Bool.and_eq_true] at hp ⊢
  obtain ⟨⟨⟨⟨hv, ho⟩, hb⟩, hobj⟩, hf⟩ := hp
  exact ⟨⟨⟨⟨hv, Memory.wf_write ho _ _⟩, hb⟩, hobj⟩, hf⟩

/-- `DmaStep()`: nothing, the delay, or the byte due and the counter (R496). -/
theorem dmaStep_cases {P : State → Prop} (s : State) (hidle : s.dma.active = false → P s)
    (hdelay : s.dma.active = true → 0 < s.dma.delay → P { s with dma := { s.dma with delay := s.dma.delay - 1 } })
    (hcopy : s.dma.active = true → s.dma.delay = 0 → s.dma.sub = 0 →
      P { s.dmaCopy with dma := s.dmaCopy.dma.advance })
    (hwait : s.dma.active = true → s.dma.delay = 0 → s.dma.sub ≠ 0 → P { s with dma := s.dma.advance }) :
    P s.dmaStep := by
  unfold State.dmaStep
  split
  · next h => exact hidle (by simpa using h)
  next h =>
    have hon : s.dma.active = true := by simpa using h
    split
    · next hd => exact hdelay hon hd
    next hd =>
      have h0 : s.dma.delay = 0 := Nat.eq_zero_of_not_pos hd
      dsimp only
      split
      · next hs => exact hcopy hon h0 hs
      · next hs => exact hwait hon h0 hs

theorem memoriesWf_dmaStep (s : State) (h : s.memoriesWf = true) : s.dmaStep.memoriesWf = true :=
  dmaStep_cases (P := fun t => t.memoriesWf = true) s (fun _ => h) (fun _ _ => h) (fun _ _ _ => memoriesWf_dmaCopy s h)
    fun _ _ _ => h

theorem outsideProperty_memoriesWf : OutsideProperty fun s => s.memoriesWf = true where
  congr s t hs h := by
    rw [State.memoriesWf_iff] at hs ⊢
    rw [h.wram, h.hram, h.ppu, h.cart]
    exact hs
  write s t a v h hs := State.memoriesWf_busWrite h hs
  clock s k hs := by
    obtain ⟨hrom, -, -, hram⟩ := rtcAdvance_fixed s.cart k
    rw [State.memoriesWf_iff] at hs ⊢
    dsimp only
    rw [hrom, hram]
    exact hs

/-- Settles O33: bus writes, the PPU's framebuffer writes and the DMA engine's OAM writes keep the form. -/
theorem memoriesStayCanonical : Obligations.MemoriesStayCanonical := by
  intro s t hs h
  exact step_keeps outsideProperty_memoriesWf.cpuEffect memoriesWf_ppuStep memoriesWf_dmaStep h hs

end Sys2Proof
end

section
/-! PROOFS. The invariants of the PPU's line, scan and pixel pipeline and of the DMA counters: what a bus write can do
to them, and that every dot keeps them. -/

namespace Sys2Proof

open Sys2Proof.Machine Sys2Proof.Claims

/-! ### What a bus write does to the PPU and to the DMA engine -/

/-- The same internal state of the PPU: what no register write but one of LCDC changes. -/
structure SameInternals (p q : Ppu) : Prop where
  mode : q.mode = p.mode
  ly : q.ly = p.ly
  dot : q.dot = p.dot
  lx : q.lx = p.lx
  scanIndex : q.scanIndex = p.scanIndex
  scanMicro : q.scanMicro = p.scanMicro
  selected : q.selected = p.selected
  objf : q.objf = p.objf
  bgFifo : q.bgFifo = p.bgFifo
  objFifo : q.objFifo = p.objFifo
  discard : q.discard = p.discard

theorem SameInternals.refl (p : Ppu) : SameInternals p p := ⟨rfl, rfl, rfl, rfl, rfl, rfl, rfl, rfl, rfl, rfl, rfl⟩

theorem sameInternals_paletteWrite (p : Ppu) (a : Word) (v : Byte) : SameInternals p (p.paletteWrite a v) := by
  unfold Ppu.paletteWrite
  split
  · exact .refl p
  split <;> exact ⟨rfl, rfl, rfl, rfl, rfl, rfl, rfl, rfl, rfl, rfl, rfl⟩

/-- What an I/O write does to the PPU and to the DMA engine: a write of LCDC, a DMA start, or a register. -/
theorem ioWrite_cases (s : State) (a : Word) (v : Byte) :
    ((s.ioWrite a v).ppu = s.ppu.lcdcWrite v ∨ SameInternals s.ppu (s.ioWrite a v).ppu) ∧
      ((s.ioWrite a v).dma = s.dma ∨ (s.ioWrite a v).dma = Dma.start v) := by
  unfold State.ioWrite
  split
  · exact ⟨.inr (.refl _), .inl rfl⟩
  split
  · exact ⟨.inr (.refl _), .inl rfl⟩
  unfold State.videoWrite
  split
  case h_1 => exact ⟨.inl rfl, .inl rfl⟩
  case h_7 => exact ⟨.inr (.refl _), .inr rfl⟩
  case h_13 =>
    split
    · unfold State.colorWrite
      split
      case h_3 => exact ⟨.inr (sameInternals_paletteWrite _ a v), .inl rfl⟩
      all_goals exact ⟨.inr ⟨rfl, rfl, rfl, rfl, rfl, rfl, rfl, rfl, rfl, rfl, rfl⟩, .inl rfl⟩
    · exact ⟨.inr (.refl _), .inl rfl⟩
  all_goals
    (try split) <;> exact ⟨.inr ⟨rfl, rfl, rfl, rfl, rfl, rfl, rfl, rfl, rfl, rfl, rfl⟩, .inl rfl⟩

/-- What a bus write does to the PPU and to the DMA engine. -/
theorem busWrite_cases {s t : State} {a : Word} {v : Byte} (h : s.busWrite a v = some t) :
    (t.ppu = s.ppu.lcdcWrite v ∨ SameInternals s.ppu t.ppu) ∧ (t.dma = s.dma ∨ t.dma = Dma.start v) := by
  unfold State.busWrite at h
  cases hr : regionOf a <;> simp only [hr, Option.some.injEq, reduceCtorEq] at h <;> subst h
  case io => exact ioWrite_cases s a v
  all_goals
    (try split) <;> exact ⟨.inr ⟨rfl, rfl, rfl, rfl, rfl, rfl, rfl, rfl, rfl, rfl, rfl⟩, .inl rfl⟩

/-- A property of the PPU's internal state that LCDC's writes keep is kept by the CPU's part of a step. -/
theorem outsideProperty_ppu {P : Ppu → Prop} (hsame : ∀ p q, P p → SameInternals p q → P q)
    (hlcdc : ∀ p v, P p → P (p.lcdcWrite v)) : OutsideProperty fun s => P s.ppu where
  congr s t hs h := by rw [h.ppu]; exact hs
  write s t a v h hs := by
    obtain ⟨hl | hk, -⟩ := busWrite_cases h
    · rw [hl]
      exact hlcdc _ _ hs
    · exact hsame _ _ hs hk
  clock _ _ hs := hs

/-- A property of the PPU's internal state that LCDC's writes and the PPU's own step keep is kept by every step. -/
theorem step_keeps_internals {P : Ppu → Prop} (hsame : ∀ p q, P p → SameInternals p q → P q)
    (hlcdc : ∀ p v, P p → P (p.lcdcWrite v)) (hstep : ∀ p color, P p → P (p.step color).1) {s t : State}
    (h : step s = .next t) (hs : P s.ppu) : P t.ppu := by
  refine step_keeps (P := fun s => P s.ppu) (outsideProperty_ppu hsame hlcdc).cpuEffect (fun s => hstep s.ppu _)
    (fun s hs => ?_) h hs
  refine dmaStep_cases (P := fun t => P t.ppu) s (fun _ => hs) (fun _ _ => hs) (fun _ _ _ => ?_) fun _ _ _ => hs
  exact hsame _ _ hs ⟨rfl, rfl, rfl, rfl, rfl, rfl, rfl, rfl, rfl, rfl, rfl⟩

/-- `LcdcWrite(v)`: the LCD turns off, turns on, or stays as it is (R494). -/
theorem lcdcWrite_cases {P : Ppu → Prop} (p : Ppu) (v : Byte)
    (hoff : p.lcdOnPrev = true → v.getLsbD 7 = false → P { p with
      lcdc := v, lcdOnPrev := false, ly := 0, dot := 0, lx := 0, mode := .hblank, statLine := false })
    (hon : p.lcdOnPrev = false → v.getLsbD 7 = true →
      P { p with lcdc := v, lcdOnPrev := true, ly := 0, dot := 0 }.beginLine)
    (hkeep : p.lcdOnPrev = v.getLsbD 7 → P { p with lcdc := v, lcdOnPrev := v.getLsbD 7 }) : P (p.lcdcWrite v) := by
  unfold Ppu.lcdcWrite
  cases hp : p.lcdOnPrev <;> cases hv : v.getLsbD 7 <;> rw [hp, hv] at hoff hon hkeep
  · exact hkeep rfl
  · exact hon rfl rfl
  · exact hoff rfl rfl
  · exact hkeep rfl

/-! ### The line and the scan (R460–R463) -/

/-- LY, the dot and the scan are where the mode wants them, with the dot at most `e` in mode 2. -/
def ModeAgrees (e ly dot index : Nat) (micro : ScanMicro) (mode : PpuMode) : Prop :=
  match mode with
  | .hblank | .drawing => ly < 144
  | .vblank => 144 ≤ ly
  | .oamScan => ly < 144 ∧ dot ≤ e ∧ index = dot / 2 ∧ (micro = .compare ↔ dot % 2 = 1)

/-- LY, dot, mode and scan agree, with the dot at most `d`, and at most `e` in mode 2. At the end of a step these are
455 and 79; after the work of a dot 456 and 80. -/
structure LineScan (d e : Nat) (p : Ppu) : Prop where
  ly : p.ly.toNat ≤ 153
  dot : p.dot ≤ d
  selected : p.selected.length ≤ 10
  scanIndex : p.scanIndex ≤ 40
  agrees : ModeAgrees e p.ly.toNat p.dot p.scanIndex p.scanMicro p.mode

theorem lineScan_iff (p : Ppu) : LineScan 455 79 p ↔ p.lineInv ∧ p.scanInv := by
  unfold Ppu.lineInv Ppu.scanInv
  constructor
  · rintro ⟨hly, hdot, hsel, hidx, hm⟩
    unfold ModeAgrees at hm
    cases hmode : p.mode <;> rw [hmode] at hm <;> grind
  · rintro ⟨⟨hly, hdot, hvb⟩, hsel, hidx, hscan⟩
    refine ⟨hly, by omega, hsel, hidx, ?_⟩
    unfold ModeAgrees
    cases hmode : p.mode <;> rw [hmode] at hvb hscan <;> grind

/-- A line begun in mode 2 at dot 0, with nothing scanned. -/
theorem lineScan_beginLine {p : Ppu} (hly : p.ly.toNat < 144) (hdot : p.dot = 0) : LineScan 455 79 p.beginLine where
  ly := show p.ly.toNat ≤ 153 by omega
  dot := show p.dot ≤ 455 by omega
  selected := Nat.zero_le _
  scanIndex := Nat.zero_le _
  agrees := by
    show p.ly.toNat < 144 ∧ p.dot ≤ 79 ∧ 0 = p.dot / 2 ∧ (ScanMicro.readY = .compare ↔ p.dot % 2 = 1)
    rw [hdot]
    exact ⟨hly, by decide, rfl, by decide⟩

/-- The scan's dot moves its position with the dot (R463). -/
theorem LineScan.oamScanDot {p : Ppu} (h : LineScan 455 79 p) (hm : p.mode = .oamScan) :
    LineScan 456 80 { p.oamScanDot with dot := p.dot + 1 } := by
  obtain ⟨hly, hdot, hsel, hidx, ha⟩ := h
  rw [hm] at ha
  obtain ⟨hly', hd, hi, hc⟩ := ha
  unfold Ppu.oamScanDot
  split
  · next hmic =>
    rw [hmic] at hc
    have heven : p.dot % 2 ≠ 1 := fun h => nomatch hc.2 h
    refine ⟨hly, Nat.succ_le_succ hdot, hsel, hidx, ?_⟩
    show ModeAgrees 80 p.ly.toNat (p.dot + 1) p.scanIndex .compare p.mode
    rw [hm]
    exact ⟨hly', by omega, by omega, iff_of_true rfl (by omega)⟩
  · next hmic =>
    have hodd := hc.1 hmic
    refine ⟨hly, Nat.succ_le_succ hdot, ?_, show p.scanIndex + 1 ≤ 40 by omega, ?_⟩
    · dsimp only
      split
      · next hlt =>
        simp only [Bool.and_eq_true, decide_eq_true_eq] at hlt
        rw [List.length_append, List.length_singleton]
        exact hlt.1
      · exact hsel
    · show ModeAgrees 80 p.ly.toNat (p.dot + 1) (p.scanIndex + 1) .readY p.mode
      rw [hm]
      exact ⟨hly', by omega, by omega, iff_of_false (by decide) (by omega)⟩

/-- Outside mode 2 the dot and the scan's position are free. -/
theorem ModeAgrees.of_not_scan {e ly dot index : Nat} {micro : ScanMicro} {mode : PpuMode}
    (h : ModeAgrees e ly dot index micro mode) (hm : mode ≠ .oamScan) (e' dot' index' : Nat) (micro' : ScanMicro) :
    ModeAgrees e' ly dot' index' micro' mode := by
  cases mode with
  | oamScan => exact absurd rfl hm
  | hblank | vblank | drawing => exact h

/-- Outside mode 2 the dot's work moves neither the line nor the scan. -/
theorem LineScan.draws {p q : Ppu} (h : LineScan 455 79 p) (hm : p.mode ≠ .oamScan) (hq : Draws p q) :
    LineScan 456 80 { q with dot := p.dot + 1 } := by
  obtain ⟨hly, hdot, hsel, hidx, ha⟩ := h
  obtain ⟨hl, hs⟩ := hq
  refine ⟨hl.ly ▸ hly, Nat.succ_le_succ hdot, hs.selected ▸ hsel, hs.scanIndex ▸ hidx, ?_⟩
  dsimp only
  rw [hl.ly, hs.mode]
  exact ha.of_not_scan hm _ _ _ _

theorem LineScan.modeDot {p : Ppu} (h : LineScan 455 79 p) (color : Bool) :
    LineScan 456 80 { p.modeDot color with dot := p.dot + 1 } := by
  refine modeDot_cases color p (P := fun q => LineScan 456 80 { q with dot := p.dot + 1 }) (fun hm _ => h.oamScanDot hm)
    (fun hm _ => h.draws (by rw [hm]; decide) (draws_drawDot color p)) fun hidle => h.draws (fun hm => ?_) (.refl p)
  have ha := h.agrees
  rw [hm] at ha
  exact absurd (hidle (.inl hm)) (Nat.not_le_of_lt ha.1)

theorem LineScan.modeChange {p : Ppu} (h : LineScan 456 80 p) : LineScan 456 79 p.modeChange := by
  obtain ⟨hly, hdot, hsel, hidx, ha⟩ := h
  refine modeChange_cases p (fun hm _ => ?_) (fun hm _ => ?_) fun hm _ => ?_
  · rw [hm] at ha
    exact ⟨hly, hdot, hsel, hidx, show p.ly.toNat < 144 from ha.1⟩
  · rw [hm] at ha
    exact ⟨hly, hdot, hsel, hidx, show p.ly.toNat < 144 from ha⟩
  · refine ⟨hly, hdot, hsel, hidx, ?_⟩
    by_cases hs : p.mode = .oamScan
    · rw [hs] at ha ⊢
      obtain ⟨hly', hd, hpos⟩ := ha
      exact ⟨hly', by have := hm hs; omega, hpos⟩
    · exact ha.of_not_scan hs _ _ _ _

theorem nextLy_toNat (ly : Byte) (h : ly.toNat ≤ 153) :
    (nextLy ly).toNat = if ly.toNat = 153 then 0 else ly.toNat + 1 := by
  unfold nextLy
  split
  · rfl
  · bv_omega

theorem LineScan.lineEnd {p : Ppu} (h : LineScan 456 79 p) : LineScan 455 79 p.lineEnd.1 := by
  obtain ⟨hly, hdot, hsel, hidx, ha⟩ := h
  have hnext := nextLy_toNat p.ly hly
  refine lineEnd_cases p (fun hd => ?_) fun hd => ⟨hly, by omega, hsel, hidx, ha⟩
  refine nextLine_cases { p with dot := 0 } (fun h => ?_) (fun h => lineScan_beginLine h rfl) fun h => ?_
  · exact ⟨h.trans_le (by decide), Nat.zero_le _, hsel, hidx, show 144 ≤ (nextLy p.ly).toNat from h.ge⟩
  · have hly' : 144 ≤ p.ly.toNat := by dsimp only at h; split at hnext <;> omega
    have hm : p.mode = .vblank := by
      unfold ModeAgrees at ha
      split at ha
      · omega
      · omega
      · assumption
      · omega
    refine ⟨show (nextLy p.ly).toNat ≤ 153 by split at hnext <;> omega, Nat.zero_le _, hsel, hidx, ?_⟩
    dsimp only
    rw [hm]
    exact h.le

theorem LineScan.step {p : Ppu} (h : LineScan 455 79 p) (color : Bool) : LineScan 455 79 (p.step color).1 := by
  refine step_keeps_ppu color p h ?_ fun _ _ h => ⟨h.ly, h.dot, h.selected, h.scanIndex, h.agrees⟩
  unfold dotDone
  rw [(sameLine_modeDot color p).dot]
  exact (h.modeDot color).modeChange.lineEnd

theorem LineScan.lcdcWrite {p : Ppu} (h : LineScan 455 79 p) (v : Byte) : LineScan 455 79 (p.lcdcWrite v) :=
  lcdcWrite_cases p v
    (fun _ _ => ⟨Nat.zero_le _, Nat.zero_le _, h.selected, h.scanIndex, show 0 < 144 by decide⟩)
    (fun _ _ => lineScan_beginLine (show 0 < 144 by decide) rfl)
    fun _ => ⟨h.ly, h.dot, h.selected, h.scanIndex, h.agrees⟩

theorem LineScan.congr {p q : Ppu} (h : LineScan 455 79 p) (hq : SameInternals p q) : LineScan 455 79 q := by
  obtain ⟨hly, hdot, hsel, hidx, ha⟩ := h
  refine ⟨hq.ly ▸ hly, hq.dot ▸ hdot, hq.selected ▸ hsel, hq.scanIndex ▸ hidx, ?_⟩
  rw [hq.ly, hq.dot, hq.scanIndex, hq.scanMicro, hq.mode]
  exact ha

/-- Settles O36: the joint invariant is kept by every write of LCDC and by each part of a dot. -/
theorem lineAndScanInvariantKept : Obligations.LineAndScanInvariantKept := by
  intro s t hs h
  rw [← lineScan_iff] at hs ⊢
  exact step_keeps_internals (fun _ _ => LineScan.congr) (fun _ v h => h.lcdcWrite v) (fun _ c h => h.step c) h hs

end Sys2Proof
end

section
/-! PROOFS. The bounds of the pixel pipeline (R470–R487) and of the DMA counters (R495–R497), and the invariants at
reset. -/

namespace Sys2Proof

open Sys2Proof.Machine Sys2Proof.Claims

/-! ### The pixel pipeline -/

/-- The pipeline's bounds with at most `n` pixels output: FIFOs of at most 8 pixels, a discard of at most 7, and an
object being fetched is due. -/
structure Flowing (n : Nat) (p : Ppu) : Prop where
  lx : p.lx ≤ n
  bgFifo : p.bgFifo.length ≤ 8
  objFifo : p.objFifo.length ≤ 8
  discard : p.discard ≤ 7
  due : p.objf.active = true → p.objf.obj.x.toNat ≤ p.lx + 8

variable {n : Nat} {p : Ppu}

theorem Flowing.mono (h : Flowing n p) {m : Nat} (hm : n ≤ m) : Flowing m p :=
  ⟨h.lx.trans hm, h.bgFifo, h.objFifo, h.discard, h.due⟩

/-- R485: pixel `i` of an object that is due goes to one of the first 8 slots. -/
theorem length_mergePixel (color : Bool) (q : List Pixel) (i : Nat) (hx : p.objf.obj.x.toNat ≤ p.lx + 8) (hi : i ≤ 7)
    (hq : q.length ≤ 8) : (p.mergePixel color q i).length ≤ 8 := by
  have hpad (slot : Nat) (hs : slot ≤ 7) : (padTo slot q).length ≤ 8 := by
    rw [padTo, List.length_append, List.length_replicate]
    omega
  unfold Ppu.mergePixel
  dsimp only
  split
  · exact hq
  have hslot := hpad (p.objf.obj.x.toNat + i - 8 - p.lx) (by omega)
  split
  · rw [List.length_set]
    exact hslot
  · exact hslot

theorem length_mergeObject (color : Bool) (hx : p.objf.obj.x.toNat ≤ p.lx + 8) (hq : p.objFifo.length ≤ 8) :
    (p.mergeObject color).objFifo.length ≤ 8 := by
  have hidx : ∀ i ∈ pixelIndices, i ≤ 7 := by decide
  exact List.foldlRecOn (motive := fun q => q.length ≤ 8) pixelIndices _ hq
    fun q hq i hi => length_mergePixel color q i hx (hidx i hi) hq

theorem Flowing.objFetcherStep (h : Flowing n p) (hon : p.objf.active = true) (color : Bool) :
    Flowing n (p.objFetcherStep color) := by
  obtain ⟨hlx, hbg, hobj, hd, hdue⟩ := h
  unfold Ppu.objFetcherStep
  dsimp only
  split
  case h_6 =>
    refine ⟨hlx, hbg, ?_, hd, fun h => nomatch h⟩
    exact length_mergeObject (p := { p with objf := { p.objf with hi := _ } }) color (hdue hon) hobj
  all_goals exact ⟨hlx, hbg, hobj, hd, hdue⟩

theorem Flowing.windowCheck (h : Flowing n p) : Flowing n p.windowCheck := by
  obtain ⟨hlx, hbg, hobj, hd, hdue⟩ := h
  unfold Ppu.windowCheck
  split
  · exact ⟨hlx, Nat.zero_le _, hobj, Nat.sub_le _ _, hdue⟩
  · exact ⟨hlx, hbg, hobj, hd, hdue⟩

/-- R479: a push puts 8 pixels into an empty FIFO. -/
theorem Flowing.bgFetcherStep (h : Flowing n p) (color : Bool) : Flowing n (p.bgFetcherStep color) := by
  obtain ⟨hlx, hbg, hobj, hd, hdue⟩ := h
  unfold Ppu.bgFetcherStep
  split
  case h_7 | h_8 =>
    split
    · next he =>
      refine ⟨hlx, ?_, hobj, hd, hdue⟩
      show (p.bgFifo ++ pixelIndices.map (p.bgf.pixel color)).length ≤ 8
      rw [List.isEmpty_iff.1 he]
      exact le_rfl
    · exact ⟨hlx, hbg, hobj, hd, hdue⟩
  all_goals exact ⟨hlx, hbg, hobj, hd, hdue⟩

/-- R486: at most one pixel more is output, and the FIFOs only shrink. -/
theorem Flowing.outputPixel (h : Flowing n p) (color : Bool) : Flowing (n + 1) (p.outputPixel color) := by
  obtain ⟨hlx, hbg, hobj, hd, hdue⟩ := h
  unfold Ppu.outputPixel
  split
  · exact ⟨hlx.trans (Nat.le_succ n), hbg, hobj, hd, hdue⟩
  next b rest hf =>
    rw [hf, List.length_cons] at hbg
    split
    · exact ⟨hlx.trans (Nat.le_succ n), Nat.le_of_succ_le hbg, hobj, (Nat.sub_le _ _).trans hd, hdue⟩
    · refine ⟨Nat.succ_le_succ hlx, Nat.le_of_succ_le hbg, ?_, hd, fun h => (hdue h).trans ?_⟩
      · rw [List.length_tail]
        exact (Nat.sub_le _ _).trans hobj
      · dsimp only; omega

/-- The first object of a list is in it. -/
theorem firstObject_mem {l : List ObjEntry} {o : ObjEntry} (h : firstObject l = some o) : o ∈ l := by
  induction l generalizing o with
  | nil => cases h
  | cons e rest ih =>
    unfold firstObject at h
    split at h
    · cases h
      exact List.mem_cons_self
    · next o' ho =>
      split at h <;> cases h
      · exact List.mem_cons_of_mem _ (ih ho)
      · exact List.mem_cons_self

/-- R482: a due object starts at most 8 columns after the next pixel. -/
theorem dueObject_x {o : ObjEntry} (h : p.dueObject = some o) : o.x.toNat ≤ p.lx + 8 := by
  unfold Ppu.dueObject at h
  split at h
  · have hmem := (List.mem_filter.1 (firstObject_mem h)).2
    simp only [Bool.and_eq_true, decide_eq_true_eq] at hmem
    exact hmem.2
  · cases h

theorem Flowing.startObjectFetch (h : Flowing n p) {o : ObjEntry} (ho : o.x.toNat ≤ p.lx + 8) :
    Flowing n (p.startObjectFetch o) :=
  ⟨h.lx, h.bgFifo, h.objFifo, h.discard, fun _ => ho⟩

theorem Flowing.drawDot (h : Flowing n p) (color : Bool) : Flowing (n + 1) (p.drawDot color) := by
  have hw := h.windowCheck
  exact drawDot_cases color p (fun hon => (h.objFetcherStep hon color).mono (Nat.le_succ n))
    (fun o _ ho => ((hw.startObjectFetch (dueObject_x ho)).objFetcherStep rfl color).mono (Nat.le_succ n))
    (fun _ => (hw.bgFetcherStep color).mono (Nat.le_succ n)) fun _ => (hw.bgFetcherStep color).outputPixel color

/-- The pipeline's bounds, with at most `n` pixels output in mode 3 and at most 160 else; an object in fetch is looked
at in mode 3 alone. -/
structure Pipe (n : Nat) (p : Ppu) : Prop where
  lx : p.lx ≤ 160
  bgFifo : p.bgFifo.length ≤ 8
  objFifo : p.objFifo.length ≤ 8
  discard : p.discard ≤ 7
  drawing : p.mode = .drawing → p.lx ≤ n ∧ (p.objf.active = true → p.objf.obj.x.toNat ≤ p.lx + 8)

theorem pipe_iff (p : Ppu) : Pipe 159 p ↔ p.pipeInv := by
  constructor
  · rintro ⟨hlx, hbg, hobj, hd, hdraw⟩
    exact ⟨hlx, hbg, hobj, hd, fun hm => ⟨Nat.lt_succ_of_le (hdraw hm).1, (hdraw hm).2⟩⟩
  · rintro ⟨hlx, hbg, hobj, hd, hdraw⟩
    exact ⟨hlx, hbg, hobj, hd, fun hm => ⟨Nat.le_of_lt_succ (hdraw hm).1, (hdraw hm).2⟩⟩

/-- Outside mode 3 nothing is asked of the pixels output or of an object in fetch. -/
theorem Pipe.of_not_drawing {m : Nat} {q : Ppu} (hm : q.mode ≠ .drawing) (hlx : q.lx ≤ 160) (hbg : q.bgFifo.length ≤ 8)
    (hobj : q.objFifo.length ≤ 8) (hd : q.discard ≤ 7) : Pipe m q :=
  ⟨hlx, hbg, hobj, hd, fun h => absurd h hm⟩

theorem Pipe.oamScanDot (h : Pipe 159 p) (hm : p.mode = .oamScan) : Pipe 160 p.oamScanDot := by
  obtain ⟨hlx, hbg, hobj, hd, -⟩ := h
  have hm' : p.oamScanDot.mode ≠ .drawing := by rw [mode_oamScanDot, hm]; decide
  revert hm'
  unfold Ppu.oamScanDot
  split <;> exact fun hm' => .of_not_drawing hm' hlx hbg hobj hd

theorem Pipe.drawDot (h : Pipe 159 p) (hm : p.mode = .drawing) (color : Bool) : Pipe 160 (p.drawDot color) := by
  obtain ⟨-, hbg, hobj, hd, hdraw⟩ := h
  obtain ⟨hlx, hbg, hobj, hd, hdue⟩ := Flowing.drawDot ⟨(hdraw hm).1, hbg, hobj, hd, (hdraw hm).2⟩ color
  exact ⟨hlx, hbg, hobj, hd, fun _ => ⟨hlx, hdue⟩⟩

theorem Pipe.mono (h : Pipe n p) {m : Nat} (hm : n ≤ m) : Pipe m p :=
  ⟨h.lx, h.bgFifo, h.objFifo, h.discard, fun h' => ⟨(h.drawing h').1.trans hm, (h.drawing h').2⟩⟩

/-- With pixel 160 output mode 3 ends (R487). -/
theorem Pipe.modeChange (h : Pipe 160 p) : Pipe 159 p.modeChange := by
  obtain ⟨hlx, hbg, hobj, hd, hdraw⟩ := h
  refine modeChange_cases p (fun _ _ => ?_) (fun _ _ => .of_not_drawing (fun h => nomatch h) hlx hbg hobj hd)
    fun _ hm => ⟨hlx, hbg, hobj, hd, fun h => ⟨?_, (hdraw h).2⟩⟩
  · exact ⟨Nat.zero_le _, Nat.zero_le _, Nat.zero_le _, Nat.le_of_lt_succ (Nat.mod_lt _ (by decide)),
      fun _ => ⟨Nat.zero_le _, fun h => nomatch h⟩⟩
  · have := hm h; omega

theorem Pipe.beginLine (h : Pipe 159 p) : Pipe 159 p.beginLine :=
  .of_not_drawing (fun h => nomatch h) (Nat.zero_le _) h.bgFifo h.objFifo h.discard

theorem Pipe.lineEnd (h : Pipe 159 p) : Pipe 159 p.lineEnd.1 := by
  obtain ⟨hlx, hbg, hobj, hd, hdraw⟩ := h
  refine lineEnd_cases p (fun _ => ?_) fun _ => ⟨hlx, hbg, hobj, hd, hdraw⟩
  exact nextLine_cases _ (fun _ => .of_not_drawing (fun h => nomatch h) hlx hbg hobj hd)
    (fun _ => Pipe.beginLine ⟨hlx, hbg, hobj, hd, hdraw⟩) fun _ => ⟨hlx, hbg, hobj, hd, hdraw⟩

theorem Pipe.step (h : Pipe 159 p) (color : Bool) : Pipe 159 (p.step color).1 := by
  have hwork : Pipe 160 (p.modeDot color) :=
    modeDot_cases color p (fun hm _ => h.oamScanDot hm) (fun hm _ => h.drawDot hm color) fun _ => h.mono (by decide)
  refine step_keeps_ppu color p h (Pipe.lineEnd (Pipe.modeChange ?_)) fun _ _ h => ⟨h.lx, h.bgFifo, h.objFifo,
    h.discard, h.drawing⟩
  exact ⟨hwork.lx, hwork.bgFifo, hwork.objFifo, hwork.discard, hwork.drawing⟩

theorem Pipe.lcdcWrite (h : Pipe 159 p) (v : Byte) : Pipe 159 (p.lcdcWrite v) :=
  lcdcWrite_cases p v
    (fun _ _ => .of_not_drawing (fun h => nomatch h) (Nat.zero_le _) h.bgFifo h.objFifo h.discard)
    (fun _ _ => .of_not_drawing (fun h => nomatch h) (Nat.zero_le _) h.bgFifo h.objFifo h.discard)
    fun _ => ⟨h.lx, h.bgFifo, h.objFifo, h.discard, h.drawing⟩

theorem Pipe.congr {q : Ppu} (h : Pipe 159 p) (hq : SameInternals p q) : Pipe 159 q := by
  obtain ⟨hlx, hbg, hobj, hd, hdraw⟩ := h
  refine ⟨hq.lx ▸ hlx, hq.bgFifo ▸ hbg, hq.objFifo ▸ hobj, hq.discard ▸ hd, ?_⟩
  rw [hq.mode, hq.lx, hq.objf]
  exact hdraw

/-- Settles O37: the bounds are kept by every write of LCDC and by each part of a dot, with one pixel more between the
dot's work and the end of mode 3. -/
theorem pipelineInvariantKept : Obligations.PipelineInvariantKept := by
  intro s t hs h
  rw [← pipe_iff] at hs ⊢
  exact step_keeps_internals (fun _ _ => Pipe.congr) (fun _ v h => h.lcdcWrite v) (fun _ c h => h.step c) h hs

/-! ### The DMA counters -/

/-- R495: a started transfer, whose source lies below 0xE000. -/
theorem dmaInv_start (v : Byte) : (Dma.start v).inv := by
  have hsrc : (Dma.start v).src.toNat < 0xE000 := by
    unfold Dma.start
    dsimp only
    split
    · bv_omega
    · omega
  exact ⟨le_rfl, Nat.zero_le _, Nat.zero_le _, hsrc, fun _ h => nomatch h⟩

/-- R496: the counter between bytes; a transfer goes on past byte 160 only inside its last four dots. -/
theorem dmaInv_advance {d : Dma} (hdelay : d.delay ≤ 8) (hcount : d.count ≤ 160) (hsrc : d.src.toNat < 0xE000) :
    d.advance.inv := by
  refine ⟨hdelay, hcount, Nat.le_of_lt_succ (Nat.mod_lt _ (by decide)), hsrc, fun ha hc hs => ?_⟩
  have hend : (d.count == Config.dmaLength && (d.sub + 1) % 4 == 0) = true :=
    Bool.and_eq_true_iff.2 ⟨beq_iff_eq.2 hc, beq_iff_eq.2 hs⟩
  unfold Dma.advance at ha
  simp [hend] at ha

theorem dmaInv_dmaStep (s : State) (h : s.dma.inv) : s.dmaStep.dma.inv := by
  obtain ⟨hdelay, hcount, hsub, hsrc, hlast⟩ := h
  refine dmaStep_cases (P := fun t => t.dma.inv) s (fun _ => ⟨hdelay, hcount, hsub, hsrc, hlast⟩)
    (fun _ _ => ⟨(Nat.sub_le _ _).trans hdelay, hcount, hsub, hsrc, hlast⟩)
    (fun hon _ h0 => dmaInv_advance hdelay ?_ hsrc) fun _ _ _ => dmaInv_advance hdelay hcount hsrc
  have hlt : s.dma.count ≠ 160 := fun hc => hlast hon hc h0
  show s.dma.count + 1 ≤ 160
  omega

theorem outsideProperty_dmaInv : OutsideProperty fun s => s.dma.inv where
  congr s t hs h := by rw [h.dma]; exact hs
  write s t a v h hs := by
    obtain ⟨-, hk | hst⟩ := busWrite_cases h
    · rw [hk]
      exact hs
    · rw [hst]
      exact dmaInv_start v
  clock _ _ hs := hs

/-- Settles O38: a write of the DMA register starts within the bounds, and each dot of the engine keeps them. -/
theorem dmaInvariantKept : Obligations.DmaInvariantKept := by
  intro s t hs h
  exact step_keeps outsideProperty_dmaInv.cpuEffect (fun _ hs => hs) dmaInv_dmaStep h hs

/-- Settles O39: each invariant of the power-on values. -/
theorem invariantsHoldAtReset : Obligations.InvariantsHoldAtReset := by
  refine ⟨State.memoriesWf_reset, rfl, fun h => Bool.noConfusion h, ?_⟩
  unfold Ppu.lineInv Ppu.scanInv Ppu.pipeInv Dma.inv
  decide

end Sys2Proof
end

section
/-! PROOFS. Register views (R30–R33), the stack (R261–R266), returns (R368–R376) and the decimal adjust after ADD and
SUB (R309). -/

namespace Sys2Proof

open Sys2Proof.Machine Sys2Proof.Claims

/-! ### The stack (R261, R264–R266) -/

/-- R261: `LD (a16),SP`. -/
theorem exec_ld_ma16_sp (n : Word) (s : State) : exec (.ld_ma16_sp n) s = .next (s.storeSp n) := rfl

/-- R264: the rows `11 pp 0101` push the pairs. -/
theorem exec_pushReg_row (p : BitVec 2) (n : Word) (s : State) :
    exec (opInstr (0b11#2 ++ p ++ 0b0101#4) n) s = .next (s.pushReg (Reg16.ofRp2 p)) := by
  obtain rfl | rfl | rfl | rfl := pairCode_cases p <;> rfl

/-- R265, R266: the rows `11 pp 0001` pop the pairs. -/
theorem exec_popReg_row (p : BitVec 2) (n : Word) (s : State) :
    exec (opInstr (0b11#2 ++ p ++ 0b0001#4) n) s = .next (s.popReg (Reg16.ofRp2 p)) := by
  obtain rfl | rfl | rfl | rfl := pairCode_cases p <;> rfl

/-- Settles O10: each row is `storeSp`, `pushReg` or `popReg`, and the laws of the stack say where it completes and
where it stops. -/
theorem stackOperations : Obligations.StackOperations := by
  refine ⟨fun s t u n h1 h2 => ?_, fun p n s t u h1 h2 => ?_, fun s n h => ?_, fun s t n h1 h2 => ?_, fun p n s h => ?_,
    fun p n s t h1 h2 => ?_, fun p n s lo hi h1 h2 => ?_, fun p n s h => ?_, fun p n s h1 h2 => ?_⟩
  · rw [exec_ld_ma16_sp, State.storeSp_of_some h1 h2]
  · rw [exec_pushReg_row, State.pushReg, State.push16_of_some' h1 h2, Access.run_ok]
  · rw [exec_ld_ma16_sp, State.storeSp_of_hole h]
  · rw [exec_ld_ma16_sp, State.storeSp_of_hole_second h1 h2]
  · rw [exec_pushReg_row, State.pushReg, State.push16_of_hole h, Access.run_stop]
  · rw [exec_pushReg_row, State.pushReg, State.push16_of_hole_second h1 h2, Access.run_stop]
  · rw [exec_popReg_row, State.popReg, State.pop16_of_some' h1 h2, Access.run_ok]
    rfl
  · rw [exec_popReg_row, State.popReg, State.pop16_of_hole h, Access.run_stop]
  · obtain ⟨lo, hlo⟩ := s.exists_busRead h1
    rw [exec_popReg_row, State.popReg, State.pop16_of_hole_second hlo h2, Access.run_stop]

/-! ### Returns (R368, R369, R376) -/

/-- R369: the rows `110 cc 000` are the conditional returns. -/
theorem exec_retIf_row (cc : BitVec 2) (n : Word) (s : State) :
    exec (opInstr (0b110#3 ++ cc ++ 0b000#3) n) s = .next (s.retIf (Cond.ofCode cc)) := by
  obtain rfl | rfl | rfl | rfl := pairCode_cases cc <;> rfl

/-- R369: a conditional return whose condition holds is a return. -/
theorem exec_retIf_taken {s : State} {cc : BitVec 2} (n : Word) (h : holds cc s.flags = true) :
    exec (opInstr (0b110#3 ++ cc ++ 0b000#3) n) s = .next (s.ret 5) := by
  rw [exec_retIf_row, State.retIf, cond_ofCode, if_pos h]

/-- R369: a conditional return whose condition does not hold only costs 2 machine cycles. -/
theorem exec_retIf_untaken {s : State} {cc : BitVec 2} (n : Word) (h : holds cc s.flags = false) :
    exec (opInstr (0b110#3 ++ cc ++ 0b000#3) n) s = .next (s.charge 2) := by
  rw [exec_retIf_row, State.retIf, cond_ofCode, if_neg (Bool.eq_false_iff.1 h)]

/-- R369: of `RET Z` and `RET NZ`, the one whose condition holds is a return. -/
theorem exec_ret_z_or_nz (s : State) : exec (if s.flags.z then .ret_z else .ret_nz) s = .next (s.ret 5) := by
  cases hz : s.flags.z
  case true => exact exec_retIf_taken (cc := 0b01#2) 0 hz
  case false => exact exec_retIf_taken (cc := 0b00#2) 0 (congrArg not hz)

/-- R369: of `RET C` and `RET NC`, the one whose condition holds is a return. -/
theorem exec_ret_c_or_nc (s : State) : exec (if s.flags.c then .ret_c else .ret_nc) s = .next (s.ret 5) := by
  cases hc : s.flags.c
  case true => exact exec_retIf_taken (cc := 0b11#2) 0 hc
  case false => exact exec_retIf_taken (cc := 0b10#2) 0 (congrArg not hc)

/-- Every return of the list is `ret`, with its cost. -/
theorem exec_takenReturns {s : State} {i : Instr} {n : Nat} (h : (i, n) ∈ takenReturns s) :
    exec i s = .next (s.ret n) := by
  suffices hall : ∀ x ∈ takenReturns s, exec x.1 s = .next (s.ret x.2) from hall _ h
  simp only [takenReturns, List.forall_mem_cons]
  exact ⟨rfl, exec_ret_z_or_nz s, exec_ret_c_or_nc s, List.forall_mem_nil _⟩

/-- R376: RETI is the return from an interrupt, in 4 machine cycles. -/
theorem exec_reti (s : State) : exec .reti s = .next (s.returnFromInterrupt.run fun _ t => t.charge 4) := rfl

/-- A pop that stops ends every return in the state of the fault. -/
theorem exec_return_of_stop {s t : State} {i : Instr} (hi : i = .reti ∨ ∃ n, (i, n) ∈ takenReturns s)
    (h : s.pop16 = .stop t) : exec i s = .next t := by
  obtain rfl | ⟨n, hn⟩ := hi
  · rw [exec_reti, State.returnFromInterrupt, h, Access.andThen_stop, Access.run_stop]
  · rw [exec_takenReturns hn, State.ret, h, Access.run_stop]

/-- Settles O20: each taken return is a pop of PC and a jump, and the laws of the pop say where it completes and where
it stops. -/
theorem returns : Obligations.Returns := by
  refine ⟨fun s lo hi h1 h2 => ⟨fun i n hi => ?_, ?_⟩, fun cc n s hc => exec_retIf_untaken n hc,
    fun s i hi => ⟨fun h => ?_, fun h1 h2 => ?_⟩⟩
  · rw [exec_takenReturns hi, State.ret, State.pop16_of_some' h1 h2, Access.run_ok]
    rfl
  · rw [exec_reti, State.returnFromInterrupt, State.pop16_of_some' h1 h2, Access.andThen_ok, Access.run_ok]
    rfl
  · exact exec_return_of_stop hi (State.pop16_of_hole h)
  · obtain ⟨lo, hlo⟩ := s.exists_busRead h1
    exact exec_return_of_stop hi (State.pop16_of_hole_second hlo h2)

/-! ### Register views (R30, R31, R33) -/

/-- R33: F is the low byte of AF without its low nibble. -/
theorem f_eq (s : State) : s.f = loByte s.regs.af &&& 0xF0#8 := loByte_and _ _

/-- R33: A and F are the bytes of AF as it is read. -/
theorem afValue_eq (s : State) : s.regs.afValue = s.r8 .a ++ s.f := by
  have ha : hiByte s.regs.afValue = s.r8 .a := by
    rw [Regs.afValue, hiByte_and, show hiByte 0xFFF0#16 = BitVec.allOnes 8 from rfl, BitVec.and_allOnes]
    rfl
  rw [← ha]
  exact (mkWord_hi_lo s.regs.afValue).symm

/-- A write of a byte view leaves F. -/
theorem f_setR8 (s : State) (r : Reg8) (v : Byte) : (s.setR8 r v).f = s.f := by
  rw [f_eq, f_eq]
  cases r with
  | a => simp [Regs.setR8]
  | b | c | d | e | h | l => rfl

/-- What a pair reads after a write of one; AF is masked (R33, D12). -/
theorem r16_setR16 (s : State) (r r' : Reg16) (w : Word) :
    (s.setR16 r w).r16 r' = if r' = r then (if r = .af then w &&& 0xFFF0#16 else w) else s.r16 r' := by
  cases r with
  | af =>
    cases r' with
    | af => exact BitVec.and_assoc w _ _
    | bc | de | hl | sp => rfl
  | bc | de | hl | sp => cases r' <;> rfl

theorem f_setFlags (s : State) (f : Flags) : (s.setFlags f).f = f.toByte := by
  rw [f_eq]
  obtain ⟨z, n, h, c⟩ := f
  simp only [State.setFlags, loByte_setLo]
  revert z n h c
  decide

/-- Settles O5: each view is a byte of its cell, and AF alone is masked. -/
theorem registerViews : Obligations.RegisterViews := by
  refine ⟨fun s r r' v => ⟨s.r8_setR8 r r' v, f_setR8 s r v⟩, fun s => ⟨?_, ?_, ?_, afValue_eq s⟩, r16_setR16,
    State.f_low, fun s f => ⟨s.flags_setFlags f, s.r8_setFlags f .a, f_setFlags s f⟩⟩
  · exact (mkWord_hi_lo s.regs.bc).symm
  · exact (mkWord_hi_lo s.regs.de).symm
  · exact (mkWord_hi_lo s.regs.hl).symm

/-! ### The decimal adjust of sums and differences (R309) -/

/-- The digits of a number below 100. -/
theorem exists_digits {m : Nat} (h : m < 100) : ∃ a b, a < 10 ∧ b < 10 ∧ m = 10 * a + b :=
  ⟨m / 10, m % 10, by omega, by omega, by omega⟩

/-- Two digits as a BCD byte: the tens in the high nibble, the units in the low one. -/
theorem toNat_bcd {a b : Nat} (ha : a < 10) (hb : b < 10) : (bcd (10 * a + b)).toNat = 16 * a + b := by
  rw [bcd, BitVec.toNat_ofNat]
  omega

/-- A byte with the number of a BCD byte is that byte. -/
theorem ofInt_eq_bcd {i : Int} {a b : Nat} (ha : a < 10) (hb : b < 10) (h : i % 256 = 16 * a + b) :
    BitVec.ofInt 8 i = bcd (10 * a + b) := by
  rw [← BitVec.toNat_inj, BitVec.toNat_ofInt, toNat_bcd ha hb]
  omega

/-- DAA of what an ALU operation leaves: the new A, before it is cut to a byte, and the new C (R309). -/
def adjusted (op : AluOp) (a v : Byte) (carry : Bool) : Int × Bool :=
  let r := aluRule op a v carry
  daaRule r.1 r.2.n r.2.h r.2.c

/-- A and the flags after an ALU operation on an immediate and DAA. -/
theorem adjustA_aluImm (s : State) (op : AluOp) (v : Byte) :
    let e := adjusted op (s.r8 .a) v s.flags.c
    let u := (s.aluImm op v).adjustA
    u.r8 .a = BitVec.ofInt 8 e.1 ∧ u.flags.c = e.2 ∧ u.flags.z = decide (e.1 % 256 = 0) := by
  rw [State.adjustA, State.aluImm, alu_eq, daa_eq_daaRule]
  simp [adjusted]

section Digits
variable {a b c d : Nat} (ha : a < 10) (hb : b < 10) (hc : c < 10) (hd : d < 10) (carry : Bool)
include ha hb hc hd

/-- DAA corrects the sum of two BCD bytes digit by digit, with C the carry out of the tens. -/
theorem adjusted_add :
    (adjusted .add (bcd (10 * a + b)) (bcd (10 * c + d)) carry).1 % 256 =
        16 * ((a + c + (b + d) / 10) % 10 : Nat) + ((b + d) % 10 : Nat) ∧
      (adjusted .add (bcd (10 * a + b)) (bcd (10 * c + d)) carry).2 = decide (10 ≤ a + c + (b + d) / 10) := by
  have hx : (16 * a + b) % 16 = b := by omega
  have hy : (16 * c + d) % 16 = d := by omega
  simp only [adjusted, aluRule, daaRule, toNat_bcd ha hb, toNat_bcd hc hd, hx, hy, BitVec.toNat_ofNat,
    Bool.false_eq_true, if_false, decide_eq_true_eq, ← Bool.decide_or, decide_eq_decide]
  constructor
  · split_ifs <;> omega
  · obtain h | h := Nat.lt_or_ge (b + d) 10 <;> omega

/-- DAA corrects the difference of two BCD bytes digit by digit, with C the borrow. -/
theorem adjusted_sub :
    (adjusted .sub (bcd (10 * a + b)) (bcd (10 * c + d)) carry).1 % 256 =
        16 * ((a + 10 - c - (if b < d then 1 else 0)) % 10 : Nat) + ((b + 10 - d) % 10 : Nat) ∧
      (adjusted .sub (bcd (10 * a + b)) (bcd (10 * c + d)) carry).2 = decide (10 * a + b < 10 * c + d) := by
  have hx : (16 * a + b) % 16 = b := by omega
  have hy : (16 * c + d) % 16 = d := by omega
  have hlt : 16 * a + b < 16 * c + d ↔ 10 * a + b < 10 * c + d := by omega
  simp only [adjusted, aluRule, daaRule, toNat_bcd ha hb, toNat_bcd hc hd, hx, hy, BitVec.toNat_ofInt, if_true,
    Nat.add_zero, decide_eq_true_eq, decide_eq_decide, hlt, and_true]
  split_ifs <;> omega

end Digits

/-- Settles O14: DAA leaves the decimal digits of the sum or difference that ADD or SUB left in binary. -/
theorem decimalAdjustIsDecimal : Obligations.DecimalAdjustIsDecimal := by
  intro m n hm hn s hs
  obtain ⟨a, b, ha, hb, rfl⟩ := exists_digits hm
  obtain ⟨c, d, hc, hd, rfl⟩ := exists_digits hn
  refine ⟨⟨_, _, rfl, exec_daa _, ?_⟩, ⟨_, _, rfl, exec_daa _, ?_⟩⟩
  · obtain ⟨ra, rc, rz⟩ := adjustA_aluImm s .add (bcd (10 * c + d))
    obtain ⟨hsum, hcarry⟩ := adjusted_add ha hb hc hd s.flags.c
    have hdigits : (10 * a + b + (10 * c + d)) % 100 = 10 * ((a + c + (b + d) / 10) % 10) + (b + d) % 10 := by omega
    rw [hs] at ra rc rz
    refine ⟨?_, ?_, ?_⟩
    · rw [hdigits]
      exact ra.trans (ofInt_eq_bcd (by omega) (by omega) hsum)
    · refine (rc.trans hcarry).trans (decide_eq_decide.2 ?_)
      omega
    · refine rz.trans (decide_eq_decide.2 ?_)
      omega
  · obtain ⟨ra, rc, rz⟩ := adjustA_aluImm s .sub (bcd (10 * c + d))
    obtain ⟨hdiff, hborrow⟩ := adjusted_sub ha hb hc hd s.flags.c
    have hdigits : (10 * a + b + 100 - (10 * c + d)) % 100 =
        10 * ((a + 10 - c - if b < d then 1 else 0) % 10) + (b + 10 - d) % 10 := by split_ifs <;> omega
    rw [hs] at ra rc rz
    refine ⟨?_, rc.trans hborrow, ?_⟩
    · rw [hdigits]
      exact ra.trans (ofInt_eq_bcd (by omega) (by omega) hdiff)
    · refine rz.trans (decide_eq_decide.2 ?_)
      split_ifs at hdiff <;> omega

end Sys2Proof
end

section
/-! PROOFS. The system instructions (R390–R397): the bare 0xCB row, the illegal opcodes, and which instructions write
IME, PendingEI and RunState. -/

namespace Sys2Proof

open Sys2Proof.Machine Sys2Proof.Claims

/-! ### The bare 0xCB row (R393) -/

/-- R202: a byte is its three fields. -/
theorem fields_eq (b : Byte) : b = fieldX b ++ fieldY b ++ fieldZ b := by
  apply BitVec.eq_of_getLsbD_eq
  revert b
  decide

/-- R393: the row's meaning is that of the prefixed table's instruction. -/
theorem exec_cbInstr (op2 : Byte) (s : State) : exec (cbInstr op2) s = .next (s.cbExec op2) := by
  have hx : fieldX op2 = 0b00#2 ∨ fieldX op2 = 0b01#2 ∨ fieldX op2 = 0b10#2 ∨ fieldX op2 = 0b11#2 :=
    pairCode_cases _
  unfold State.cbExec
  obtain hx | hx | hx | hx := hx <;> rw [hx] <;> conv_lhs => rw [fields_eq op2, hx]
  · exact exec_shiftLoc_row _ _ s
  · exact exec_testBit_row _ _ s
  · exact exec_clearBit_row _ _ s
  · exact exec_setBitAt_row _ _ s

theorem toNat_fieldZ (b : Byte) : (fieldZ b).toNat = b.toNat % 8 := by
  rw [fieldZ, BitVec.extractLsb'_toNat]
  rfl

/-- R203: every operand code but 6 is a register. -/
theorem exists_reg_of_code {z : BitVec 3} (h : z.toNat ≠ 6) : ∃ r, Loc8.ofCode z = .reg r := by
  have hmhl : ∀ z : BitVec 3, Loc8.ofCode z = .mhl → z.toNat = 6 := by decide
  cases hz : Loc8.ofCode z with
  | reg r => exact ⟨r, rfl⟩
  | mhl => exact absurd (hmhl z hz) h

/-- R334: on a register operand a prefixed instruction completes in 2 machine cycles. -/
theorem cbExec_reg {op2 : Byte} {r : Reg8} (s : State) (h : Loc8.ofCode (fieldZ op2) = .reg r) :
    (s.cbExec op2).runState = s.runState ∧ (s.cbExec op2).cyclesRemaining = s.cyclesRemaining + 8 := by
  unfold State.cbExec
  rw [h]
  dsimp only
  split <;> exact ⟨rfl, rfl⟩

/-! ### The others (R390–R395) -/

section Single
variable (s : State)

theorem exec_nop : exec .nop s = .next (s.charge 1) := rfl

theorem exec_halt : exec .halt s = .next ({ s with runState := .halted }.charge 1) := rfl

theorem exec_stop (n : Byte) : exec (.stop n) s = .next ({ s with runState := .stopped }.charge 1) := rfl

theorem exec_di : exec .di s = .next ({ s with ime := false, pendingEI := .none }.charge 1) := rfl

theorem exec_ei : exec .ei s = .next (s.enableInterrupts.charge 1) := rfl

theorem exec_prefix_cb (op2 : Byte) : exec (.prefix_cb op2) s = .next (s.cbExec op2) := rfl

end Single

/-- R395: EI waits where IME is 0 and nothing waits already. -/
theorem enableInterrupts_waits {s : State} (hi : s.ime = false) (hp : s.pendingEI = .none) :
    s.enableInterrupts = { s with pendingEI := .delayEnable } := if_pos ⟨hi, hp⟩

/-- R395: else EI changes nothing. -/
theorem enableInterrupts_idle {s : State} (h : s.ime = true ∨ s.pendingEI ≠ .none) : s.enableInterrupts = s := by
  refine if_neg fun ⟨hi, hp⟩ => ?_
  obtain h | h := h
  · exact absurd (hi.symm.trans h) (by decide)
  · exact h hp

/-- Settles O21: each instruction by its meaning, and the bare 0xCB row by the fields of op2. -/
theorem systemInstructions : Obligations.SystemInstructions := by
  refine fun s => ⟨exec_nop s, exec_halt s, exec_stop s, exec_di s, fun hi hp => ?_, fun h => ?_, fun op2 => ?_,
    fun op2 h => ?_⟩
  · rw [exec_ei, enableInterrupts_waits hi hp]
  · rw [exec_ei, enableInterrupts_idle h]
  · rw [exec_prefix_cb, exec_cbInstr]
  · obtain ⟨r, hr⟩ := exists_reg_of_code (z := fieldZ op2) (by rwa [toNat_fieldZ])
    exact ⟨_, exec_prefix_cb s op2, cbExec_reg s hr⟩

/-! ### Who writes IME, PendingEI and RunState (R397) -/

/-- R212: the illegal opcodes' instructions. -/
theorem exec_illegal {op : Byte} (h : op ∈ illegalOpcodes) (n : Word) (s : State) :
    exec (opInstr op n) s = .next (s.raiseLock op) := by
  suffices hall : ∀ op ∈ illegalOpcodes, exec (opInstr op n) s = .next (s.raiseLock op) from hall op h
  simp only [illegalOpcodes, List.forall_mem_cons]
  exact ⟨rfl, rfl, rfl, rfl, rfl, rfl, rfl, rfl, rfl, rfl, rfl, List.forall_mem_nil _⟩

/-- The instruction of an illegal opcode. -/
def IsIllegal (i : Instr) : Prop := ∃ op ∈ illegalOpcodes, i = opInstr op 0

/-- The instructions that write control state: HALT, STOP, DI, EI, RETI and the illegal opcodes. -/
theorem isControlState_cases {i : Instr} (h : Instr.isControlState i = true) :
    i = .halt ∨ (∃ n, i = .stop n) ∨ i = .di ∨ i = .ei ∨ i = .reti ∨ IsIllegal i := by
  have illegal (op : Byte) (hop : op ∈ illegalOpcodes) (hi : i = opInstr op 0) :
      i = .halt ∨ (∃ n, i = .stop n) ∨ i = .di ∨ i = .ei ∨ i = .reti ∨ IsIllegal i :=
    .inr (.inr (.inr (.inr (.inr ⟨op, hop, hi⟩))))
  unfold Instr.isControlState at h
  split at h
  · exact .inl rfl
  · exact .inr (.inl ⟨_, rfl⟩)
  · exact .inr (.inr (.inl rfl))
  · exact .inr (.inr (.inr (.inl rfl)))
  · exact .inr (.inr (.inr (.inr (.inl rfl))))
  · exact illegal 0xD3#8 (by decide) rfl
  · exact illegal 0xDB#8 (by decide) rfl
  · exact illegal 0xDD#8 (by decide) rfl
  · exact illegal 0xE3#8 (by decide) rfl
  · exact illegal 0xE4#8 (by decide) rfl
  · exact illegal 0xEB#8 (by decide) rfl
  · exact illegal 0xEC#8 (by decide) rfl
  · exact illegal 0xED#8 (by decide) rfl
  · exact illegal 0xF4#8 (by decide) rfl
  · exact illegal 0xFC#8 (by decide) rfl
  · exact illegal 0xFD#8 (by decide) rfl
  · cases h

/-- The named operations leave RunState, or stop the machine in the hole of the map (R441, R443). -/
theorem effect_runState {s t : State} (h : Effect s t) :
    t.runState = s.runState ∨ ∃ a, regionOf a = .hole ∧ t.runState = .faulted .busOutOfRange a := by
  induction h with
  | refl => exact .inl rfl
  | fault a _ hr _ => exact .inr ⟨a, hr, rfl⟩
  | write a v _ hw ih =>
    obtain ⟨-, -, -, hrun, -⟩ := State.busWrite_cpu hw
    rw [hrun]
    exact ih
  | afterRead a _ ih => simpa using ih
  | setR8 _ _ _ ih | setR16 _ _ _ ih => exact ih
  | setFlags _ _ ih | setPc _ _ ih | charge _ _ ih => exact ih

/-- RETI's pop is an effect; then IME and PendingEI are written, unless the pop stopped the machine. -/
theorem exec_reti_cases (s : State) :
    (∃ t, Effect s t ∧ exec .reti s = .next t) ∨
      ∃ t, Effect s t ∧ exec .reti s = .next { t with ime := true, pendingEI := .none } := by
  have hpop : s.pop16.All (Effect s) := Effect.refl.pop16
  rw [exec_reti, State.returnFromInterrupt]
  cases hp : s.pop16 with
  | ok pc t =>
    rw [hp] at hpop
    exact .inr ⟨(t.setPc pc).charge 4, (hpop.setPc pc).charge 4, rfl⟩
  | stop t =>
    rw [hp] at hpop
    exact .inl ⟨t, hpop, rfl⟩

/-- What an instruction makes of the control state: one that is not HALT, STOP, DI, EI, RETI or illegal is an effect. -/
theorem exec_control {i : Instr} {s t : State} (h : exec i s = .next t) :
    Effect s t ∨ (i = .halt ∧ t = { s with runState := .halted }.charge 1) ∨
      ((∃ n, i = .stop n) ∧ t = { s with runState := .stopped }.charge 1) ∨
      (i = .di ∧ t = { s with ime := false, pendingEI := .none }.charge 1) ∨
      (i = .ei ∧ t = s.enableInterrupts.charge 1) ∨
      (i = .reti ∧ ∃ u, Effect s u ∧ t = { u with ime := true, pendingEI := .none }) ∨
      ∃ op ∈ illegalOpcodes, i = opInstr op 0 ∧ t = s.raiseLock op := by
  cases hi : Instr.isControlState i
  · obtain ⟨u, hu, he⟩ := exec_effect i s hi
    cases hu.symm.trans h
    exact .inl he
  obtain rfl | ⟨n, rfl⟩ | rfl | rfl | rfl | ⟨op, hop, rfl⟩ := isControlState_cases hi
  · cases h
    exact .inr (.inl ⟨rfl, rfl⟩)
  · cases h
    exact .inr (.inr (.inl ⟨⟨n, rfl⟩, rfl⟩))
  · cases h
    exact .inr (.inr (.inr (.inl ⟨rfl, rfl⟩)))
  · cases h
    exact .inr (.inr (.inr (.inr (.inl ⟨rfl, rfl⟩))))
  · obtain ⟨u, hu, hr⟩ | ⟨u, hu, hr⟩ := exec_reti_cases s <;> cases hr.symm.trans h
    · exact .inl hu
    · exact .inr (.inr (.inr (.inr (.inr (.inl ⟨rfl, u, hu, rfl⟩)))))
  · cases (exec_illegal hop 0 s).symm.trans h
    exact .inr (.inr (.inr (.inr (.inr (.inr ⟨op, hop, rfl, rfl⟩)))))

theorem enableInterrupts_control (s : State) :
    s.enableInterrupts.ime = s.ime ∧ s.enableInterrupts.runState = s.runState := by
  unfold State.enableInterrupts
  split <;> exact ⟨rfl, rfl⟩

/-- Settles O23: the named operations write no control state but for a fault, and the others write what they say. -/
theorem whoWritesControlState : Obligations.WhoWritesControlState := by
  intro i s t h
  obtain he | ⟨rfl, rfl⟩ | ⟨⟨n, rfl⟩, rfl⟩ | ⟨rfl, rfl⟩ | ⟨rfl, rfl⟩ | ⟨rfl, u, he, rfl⟩ | ⟨op, hop, rfl, rfl⟩ :=
    exec_control h
  · obtain ⟨hi, hp⟩ := effect_control he
    refine ⟨fun _ _ => hi, fun _ _ _ => hp, ?_⟩
    obtain hr | ⟨a, ha, hr⟩ := effect_runState he
    · exact .inl hr
    · obtain ⟨hlo, hhi⟩ := (regionOf_hole a).1 ha
      exact .inr (.inr (.inr (.inr ⟨a, hlo, hhi, hr⟩)))
  · exact ⟨fun _ _ => rfl, fun _ _ _ => rfl, .inr (.inl ⟨rfl, rfl⟩)⟩
  · exact ⟨fun _ _ => rfl, fun _ _ _ => rfl, .inr (.inr (.inl ⟨⟨n, rfl⟩, rfl⟩))⟩
  · exact ⟨fun h => absurd rfl h, fun h => absurd rfl h, .inl rfl⟩
  · obtain ⟨hi, hr⟩ := enableInterrupts_control s
    exact ⟨fun _ _ => hi, fun _ h => absurd rfl h, .inl hr⟩
  · refine ⟨fun _ h => absurd rfl h, fun _ _ h => absurd rfl h, ?_⟩
    obtain hr | ⟨a, ha, hr⟩ := effect_runState he
    · exact .inl hr
    · obtain ⟨hlo, hhi⟩ := (regionOf_hole a).1 ha
      exact .inr (.inr (.inr (.inr ⟨a, hlo, hhi, hr⟩)))
  · exact ⟨fun _ _ => rfl, fun _ _ _ => rfl, .inr (.inr (.inr (.inl ⟨op, hop, rfl, rfl⟩)))⟩

/-- The encoding of an opcode's instruction begins with the opcode. -/
theorem head_encode_opInstr (op : Byte) (n : Word) : (encode (opInstr op n)).head? = some op := by
  have h := encode_apply op (loByte n) n
  have hop : opInstr op n = (mainEntry op).apply (loByte n) n := by
    unfold opInstr Row.apply
    cases mainEntry op <;> rfl
  rw [hop, h]
  unfold Row.bytes
  split <;> rfl

/-- Settles O22: the illegal opcodes' rows lock, and nothing else an instruction does to RunState is a lock. -/
theorem illegalOpcodesLock : Obligations.IllegalOpcodesLock := by
  refine ⟨fun op n s hop => exec_illegal hop n s, fun op n s t hop hs h code pc hlock => ?_⟩
  obtain ⟨-, -, hr | ⟨-, hr⟩ | ⟨-, hr⟩ | ⟨op', hop', hi, -⟩ | ⟨a, -, -, hr⟩⟩ := whoWritesControlState _ s t h
  · rw [State.terminal, ← hr, hlock] at hs
    cases hs
  · cases hr.symm.trans hlock
  · cases hr.symm.trans hlock
  · have hhead := head_encode_opInstr op n
    rw [hi, head_encode_opInstr] at hhead
    cases hhead
    exact hop hop'
  · cases hr.symm.trans hlock

/-! ### The latency of EI (R395, R430) -/

/-- After an instruction that did not stop the machine the deferred transition is applied. -/
theorem afterInstr_of_running {t : State} (h : t.terminal = false) : afterInstr (.next t) = .next t.applyPendingEI := by
  simp [afterInstr, h]

theorem applyPendingEI_of_none {s : State} (h : s.pendingEI = .none) : s.applyPendingEI = s := by
  simp [State.applyPendingEI, h]

theorem applyPendingEI_of_delay {s : State} (h : s.pendingEI = .delayEnable) :
    s.applyPendingEI = { s with pendingEI := .enableNextTick } := by
  simp [State.applyPendingEI, h]

theorem applyPendingEI_of_next {s : State} (h : s.pendingEI = .enableNextTick) :
    s.applyPendingEI = { s with ime := true, pendingEI := .none } := by
  simp [State.applyPendingEI, h]

/-- Settles O32: EI starts the wait, the next instruction's transition ends it, and DI drops it. -/
theorem enableLatency : Obligations.EnableLatency := by
  refine ⟨fun s hs hi hp => ?_, fun i s t hi hp hdi h ht => ?_, fun s hs => ?_⟩
  · rw [exec_ei, enableInterrupts_waits hi hp,
      afterInstr_of_running (t := State.charge { s with pendingEI := .delayEnable } 1) hs, applyPendingEI_of_delay rfl]
    exact ⟨_, rfl, hi, rfl⟩
  · rw [h, afterInstr_of_running ht]
    refine ⟨_, rfl, ?_⟩
    have hset (h : t.pendingEI = .enableNextTick) :
        t.applyPendingEI.ime = true ∧ t.applyPendingEI.pendingEI = .none := by
      rw [applyPendingEI_of_next h]
      exact ⟨rfl, rfl⟩
    obtain he | ⟨rfl, rfl⟩ | ⟨-, rfl⟩ | ⟨rfl, -⟩ | ⟨rfl, rfl⟩ | ⟨rfl, u, -, rfl⟩ | ⟨op, -, -, rfl⟩ := exec_control h
    · exact hset ((effect_control he).2.trans hp)
    · exact hset hp
    · exact hset hp
    · exact absurd rfl hdi
    · rw [enableInterrupts_idle (.inr (by rw [hp]; decide))] at hset ⊢
      exact hset hp
    · rw [applyPendingEI_of_none rfl]
      exact ⟨rfl, rfl⟩
    · exact hset hp
  · rw [exec_di, afterInstr_of_running (t := State.charge { s with ime := false, pendingEI := .none } 1) hs,
      applyPendingEI_of_none rfl]
    exact ⟨_, rfl, rfl, rfl⟩

end Sys2Proof
end

section
/-! PROOFS. One step (R410–R413): the dispatch dot, the fetch (R220, R221), the countdown between dispatch dots, and the
service of an interrupt (R420–R426). -/

namespace Sys2Proof

open Sys2Proof.Machine Sys2Proof.Claims

/-! ### The dispatch dot (R411, R412) -/

theorem nextIrq_of_pending_zero {s : State} (h : s.pending = 0#5) : s.nextIrq = none := by
  simp [State.nextIrq, h]

/-- R412: with IME 0 or nothing pending, a running CPU runs an instruction. -/
theorem serviceOrExec_of_no_irq {s : State} (h : s.ime = false ∨ s.pending = 0#5) :
    s.serviceOrExec = s.fetchAndExec := by
  unfold State.serviceOrExec
  obtain h | h := h
  · rw [h]
  · rw [nextIrq_of_pending_zero h]
    cases s.ime <;> rfl

theorem wake_of_running {s : State} (h : s.runState = .running) : s.wake = s := by
  simp [State.wake, h]

/-- R412: a CPU that is not waiting after the wake services an interrupt or runs an instruction. -/
theorem dispatch_of_running {s : State} (h : s.runState = .running) : s.dispatch = s.serviceOrExec := by
  simp [State.dispatch, wake_of_running h, h]

/-- R410, R411: the dot in which the count runs out dispatches, and the PPU and the DMA engine follow. -/
theorem step_of_dispatch {s t : State} (hs : s.takeEvents.terminal = false) (hc : s.takeEvents.cyclesRemaining ≤ 1)
    (hd : { s.takeEvents with cyclesRemaining := 0 }.dispatch = .next t) : step s = .next t.afterCpu := by
  have hzero : s.takeEvents.cyclesRemaining - 1 = 0 := by omega
  simp [step, State.dotTick, hs, State.instructionTick, hzero, hd]

/-- R410, R411: in any other dot the CPU counts down, and the PPU and the DMA engine follow. -/
theorem step_of_count {s : State} (hs : s.takeEvents.terminal = false) (hc : 1 < s.takeEvents.cyclesRemaining) :
    step s = .next { s.takeEvents with cyclesRemaining := s.takeEvents.cyclesRemaining - 1 }.ppuStep.dmaStep := by
  have hpos : s.takeEvents.cyclesRemaining - 1 ≠ 0 := by omega
  have hs' : { s.takeEvents with cyclesRemaining := s.takeEvents.cyclesRemaining - 1 }.terminal = false := hs
  simp [step, State.dotTick, hs, State.instructionTick, hpos, State.afterCpu, hs']

theorem terminal_of_running {s : State} (h : s.runState = .running) : s.terminal = false := by
  simp [State.terminal, h]

theorem afterCpu_eq (t : State) : t.afterCpu = if t.terminal then t else t.ppuStep.dmaStep := rfl

/-- The deferred transition leaves RunState. -/
theorem terminal_applyPendingEI (s : State) : s.applyPendingEI.terminal = s.terminal := by
  obtain ⟨-, h⟩ | ⟨-, h⟩ | ⟨-, h⟩ := s.applyPendingEI_cases <;> rw [h] <;> rfl

/-- R412: a dispatch dot of a running CPU with nothing to service fetches and runs an instruction. -/
theorem step_of_fetch {s t : State} (hr : s.takeEvents.runState = .running) (hc : s.takeEvents.cyclesRemaining ≤ 1)
    (hi : s.takeEvents.ime = false ∨ s.takeEvents.pending = 0#5)
    (hf : { s.takeEvents with cyclesRemaining := 0 }.fetchAndExec = .next t) : step s = .next t.afterCpu := by
  have hr' : { s.takeEvents with cyclesRemaining := 0 }.runState = .running := hr
  refine step_of_dispatch (terminal_of_running hr) hc ?_
  exact (dispatch_of_running hr').trans
    ((serviceOrExec_of_no_irq (s := { s.takeEvents with cyclesRemaining := 0 }) hi).trans hf)

/-! ### The fetch (R35, R220, R221) -/

/-- The address of byte `k` of the instruction at PC. -/
def fetchAddr (s : State) (k : Nat) : Word := s.regs.pc + BitVec.ofNat 16 k

/-- The state after `k` fetched bytes: PC is past them, and `draws` environment reads are drawn. -/
def fetched (s : State) (k draws : Nat) : State :=
  { s with regs := { s.regs with pc := fetchAddr s k }, envDraws := draws }

theorem fetchAddr_zero (s : State) : fetchAddr s 0 = s.regs.pc := BitVec.add_zero _

theorem fetchAddr_fetched (s : State) (j k draws : Nat) : fetchAddr (fetched s j draws) k = fetchAddr s (j + k) := by
  unfold fetched fetchAddr
  rw [BitVec.add_assoc, ← BitVec.ofNat_add]

theorem fetched_fetched (s : State) (j k d e : Nat) : fetched (fetched s j d) k e = fetched s (j + k) e := by
  unfold fetched
  rw [← fetchAddr_fetched s j k d]
  rfl

theorem fetched_zero (s : State) : fetched s 0 s.envDraws = s := by
  rw [fetched, fetchAddr_zero]

/-- R116: outside the peripheral window the bus reads the same in every state of a fetch. -/
theorem busRead_fetched (s : State) (k d : Nat) {a : Word} (h : isEnvAddr a = false) :
    (fetched s k d).busRead a = s.busRead a := by
  have hio : (fetched s k d).ioRead a = s.ioRead a := by
    unfold State.ioRead
    split
    · rfl
    · rw [h]
      rfl
  unfold State.busRead
  cases regionOf a
  case io => exact congrArg some hio
  all_goals rfl

/-- One fetched byte, or the fault of its address. -/
theorem fetch8_cases (s : State) :
    (∃ v d, s.busRead (fetchAddr s 0) = some v ∧ s.fetch8 = .ok v (fetched s 1 d)) ∨
      (regionOf (fetchAddr s 0) = .hole ∧ s.fetch8 = .stop (s.raiseFault (fetchAddr s 0))) := by
  rw [fetchAddr_zero]
  obtain ⟨v, hv, -⟩ | ⟨hh, -⟩ := s.read_cases s.regs.pc
  · refine .inl ⟨v, (s.afterRead s.regs.pc).envDraws, hv, ?_⟩
    rw [State.fetch8_of_some hv]
    unfold State.afterRead
    split <;> rfl
  · exact .inr ⟨hh, State.fetch8_of_hole hh⟩

/-- What `n` fetched bytes are: those the bus gives from PC on, or the fault at the first of them in the hole. -/
theorem fetchBytes_cases (n : Nat) (s : State) :
    (∃ bytes d, s.fetchBytes n = .ok bytes (fetched s n d) ∧ bytes.length = n ∧
        (∀ k, k < n → regionOf (fetchAddr s k) ≠ .hole) ∧
        ∀ k b, bytes[k]? = some b → isEnvAddr (fetchAddr s k) = false → s.busRead (fetchAddr s k) = some b) ∨
      ∃ k d, k < n ∧ (∀ j, j < k → regionOf (fetchAddr s j) ≠ .hole) ∧ regionOf (fetchAddr s k) = .hole ∧
        s.fetchBytes n = .stop ((fetched s k d).raiseFault (fetchAddr s k)) := by
  induction n generalizing s with
  | zero => exact .inl ⟨[], s.envDraws, by rw [fetched_zero]; rfl, rfl, by simp, by simp⟩
  | succ n ih =>
    obtain ⟨v, d, hv, hf⟩ | ⟨hh, hf⟩ := fetch8_cases s
    · have h0 : regionOf (fetchAddr s 0) ≠ .hole := fun h => by
        rw [(s.busRead_eq_none _).2 h] at hv
        cases hv
      have haddr (k : Nat) : fetchAddr (fetched s 1 d) k = fetchAddr s (k + 1) := by
        rw [fetchAddr_fetched, Nat.add_comm]
      obtain ⟨bytes, e, hb, hlen, hin, hread⟩ | ⟨k, e, hk, hin, hhole, hb⟩ := ih (fetched s 1 d)
      · refine .inl ⟨v :: bytes, e, ?_, by simp [hlen], fun k hk => ?_, fun k b hkb henv => ?_⟩
        · rw [State.fetchBytes, hf, Access.andThen_ok, hb, Access.andThen_ok, fetched_fetched, Nat.add_comm]
        · cases k with
          | zero => exact h0
          | succ k => rw [← haddr]; exact hin k (Nat.lt_of_succ_lt_succ hk)
        · cases k with
          | zero => cases hkb; exact hv
          | succ k =>
            rw [← haddr] at henv ⊢
            rw [← busRead_fetched s 1 d henv]
            exact hread k b hkb henv
      · refine .inr ⟨k + 1, e, Nat.succ_lt_succ hk, fun j hj => ?_, haddr k ▸ hhole, ?_⟩
        · cases j with
          | zero => exact h0
          | succ j => rw [← haddr]; exact hin j (Nat.lt_of_succ_lt_succ hj)
        · rw [State.fetchBytes, hf, Access.andThen_ok, hb, Access.andThen_stop, fetched_fetched, haddr, Nat.add_comm]
    · refine .inr ⟨0, s.envDraws, Nat.succ_pos n, by simp, hh, ?_⟩
      rw [State.fetchBytes, hf, Access.andThen_stop, fetched_zero]

theorem one_le_instrLength (op : Byte) : 1 ≤ instrLength op := by
  unfold instrLength
  split <;> decide

theorem instrLength_le_three (op : Byte) : instrLength op ≤ 3 := by
  unfold instrLength
  split <;> decide

/-- The first byte fixes how many are fetched (R200). -/
theorem fetchInstr_of_some {s : State} {op : Byte} (h : s.busRead s.regs.pc = some op) :
    s.fetchInstr = s.fetchBytes (instrLength op) := by
  obtain ⟨n, hn⟩ := Nat.exists_eq_add_of_le' (one_le_instrLength op)
  rw [hn, State.fetchInstr, State.fetchBytes, State.fetch8_of_some h, Access.andThen_ok, Access.andThen_ok, hn,
    Nat.add_sub_cancel]

theorem fetchInstr_of_hole {s : State} (h : regionOf s.regs.pc = .hole) :
    s.fetchInstr = .stop (s.raiseFault s.regs.pc) := by
  rw [State.fetchInstr, State.fetch8_of_hole h, Access.andThen_stop]

/-- A fetch of `n` bytes completes or faults. -/
theorem terminal_of_fetchInstr_stop {s t : State} (h : s.fetchInstr = .stop t) : t.terminal = true := by
  by_cases hh : regionOf s.regs.pc = .hole
  · cases (fetchInstr_of_hole hh).symm.trans h
    rfl
  · obtain ⟨op, hop⟩ := s.exists_busRead hh
    rw [fetchInstr_of_some hop] at h
    obtain ⟨_, _, hb, -⟩ | ⟨_, _, -, -, -, hb⟩ := fetchBytes_cases (instrLength op) s <;> cases hb.symm.trans h
    rfl

/-- Settles O28: the fetch is that of as many bytes as the first asks for, which end or stop as `fetchBytes_cases`
says. -/
theorem fetchReadsBytesAtPc : Obligations.FetchReadsBytesAtPc := by
  refine ⟨fun s t bytes h => ?_, fun s h => ?_, fun s h => fetchInstr_of_hole h, fun s op k hop hk1 hk hin hhole => ?_⟩
  · obtain ⟨op, rest, rfl, hlen⟩ := s.fetchInstr_ok h
    have hlen' : (op :: rest).length = instrLength op := by
      have := one_le_instrLength op
      rw [List.length_cons, hlen]
      omega
    refine ⟨⟨op, rest, rfl, hlen'⟩, ?_⟩
    by_cases hh : regionOf s.regs.pc = .hole
    · cases (fetchInstr_of_hole hh).symm.trans h
    obtain ⟨op', hop⟩ := s.exists_busRead hh
    rw [fetchInstr_of_some hop] at h
    obtain ⟨bytes, d, hb, hl, -, hread⟩ | ⟨_, _, -, -, -, hb⟩ := fetchBytes_cases (instrLength op') s <;>
      cases hb.symm.trans h
    rw [hl]
    exact ⟨rfl, hread⟩
  · have h0 : regionOf s.regs.pc ≠ .hole := fetchAddr_zero s ▸ h 0 (by decide)
    obtain ⟨op, hop⟩ := s.exists_busRead h0
    rw [fetchInstr_of_some hop]
    obtain ⟨bytes, d, hb, -⟩ | ⟨k, _, hk, -, hhole, -⟩ := fetchBytes_cases (instrLength op) s
    · exact ⟨bytes, _, hb⟩
    · exact absurd hhole (h k (hk.trans_le (instrLength_le_three op)))
  · rw [fetchInstr_of_some hop]
    obtain ⟨_, _, -, -, hin', -⟩ | ⟨j, d, hj, hin', hhole', hb⟩ := fetchBytes_cases (instrLength op) s
    · exact absurd hhole (hin' k hk)
    · obtain hlt | rfl | hlt := Nat.lt_trichotomy j k
      · exact absurd hhole' (hin j hlt)
      · exact ⟨d, hb⟩
      · exact absurd hhole (hin' k hlt)

/-- Settles O26: the dispatch of a running CPU with nothing to service is the fetch, the instruction and the
transition. -/
theorem stepRunsDecodedInstruction : Obligations.StepRunsDecodedInstruction := by
  constructor
  · rintro s _ t u bytes i rfl hr hc hi hf hdec he
    have hrun : { s.takeEvents with cyclesRemaining := 0 }.fetchAndExec = afterInstr (exec i t) := by
      simp [State.fetchAndExec, hf, hdec]
    rw [step_of_fetch hr hc hi (hrun.trans (congrArg afterInstr he)), afterCpu_eq]
    cases ht : u.terminal
    · simp [terminal_applyPendingEI, ht]
    · simp [ht]
  · rintro s _ t rfl hr hc hi hf
    have hrun : { s.takeEvents with cyclesRemaining := 0 }.fetchAndExec = .next t := by
      simp [State.fetchAndExec, hf]
    rw [step_of_fetch hr hc hi hrun, afterCpu_eq, terminal_of_fetchInstr_stop hf, if_pos rfl]

/-! ### The countdown (R411, R413) -/

/-- An empty gap is taken from the list, and nothing happens. -/
theorem takeEvents_of_quiet {s : State} (h : quiet 1 s) : s.takeEvents = { s with external := s.external.drop 1 } := by
  unfold State.takeEvents
  split
  · next hnil =>
    rw [hnil, List.drop_nil, ← hnil]
  · next gap rest hcons =>
    have hgap : gap = [] := h gap (by rw [hcons]; exact List.mem_cons_self)
    rw [hcons, hgap]
    rfl

theorem quiet_one_of_succ {n : Nat} {s : State} (h : quiet (n + 1) s) : quiet 1 s := fun gap hgap =>
  h gap (List.take_subset_take_left _ (Nat.succ_le_succ (Nat.zero_le n)) hgap)

theorem quiet_of_drop {n : Nat} {s t : State} (h : quiet (n + 1) s) (ht : t.external = s.external.drop 1) :
    quiet n t := fun gap hgap => by
  rw [ht, List.take_drop] at hgap
  rw [Nat.add_comm] at hgap
  exact h gap (List.mem_of_mem_drop hgap)

/-- A run's first step. -/
theorem run_succ {s t : State} (n : Nat) (h : step s = .next t) :
    Sys2Proof.core.run (n + 1) s = Sys2Proof.core.run n t := by
  have hrun := Host.Core.run.eq_2 Sys2Proof.core s n
  rw [show Sys2Proof.core.step s = .next t from h] at hrun
  exact hrun

/-- What `n` dots of counting down leave of the CPU and of what only it and the events write. -/
structure CountedDown (n : Nat) (s t : State) : Prop where
  cyclesRemaining : t.cyclesRemaining = s.cyclesRemaining - n
  regs : t.regs = s.regs
  ime : t.ime = s.ime
  pendingEI : t.pendingEI = s.pendingEI
  runState : t.runState = s.runState
  ie : t.ie = s.ie
  wram : t.wram = s.wram
  hram : t.hram = s.hram
  cart : t.cart = s.cart
  external : t.external = s.external.drop n

theorem CountedDown.trans {m n : Nat} {s t u : State} (h : CountedDown m s t) (k : CountedDown n t u) :
    CountedDown (m + n) s u where
  cyclesRemaining := by rw [k.cyclesRemaining, h.cyclesRemaining, Nat.sub_sub]
  regs := k.regs.trans h.regs
  ime := k.ime.trans h.ime
  pendingEI := k.pendingEI.trans h.pendingEI
  runState := k.runState.trans h.runState
  ie := k.ie.trans h.ie
  wram := k.wram.trans h.wram
  hram := k.hram.trans h.hram
  cart := k.cart.trans h.cart
  external := by rw [k.external, h.external, List.drop_drop]

/-- A dot that only counts down, after an empty gap. -/
theorem step_of_quiet {s : State} (hs : s.terminal = false) (hq : quiet 1 s) (hc : 1 < s.cyclesRemaining) :
    ∃ t, step s = .next t ∧ CountedDown 1 s t := by
  have he := takeEvents_of_quiet hq
  refine ⟨_, step_of_count (by rw [he]; exact hs) (by rw [he]; exact hc), ?_⟩
  rw [he]
  obtain ⟨hw, hh, hcart, -, hregs, hi, hp, hr, hcyc, hie, hext⟩ := dmaStep_frame
    (State.ppuStep { s with external := s.external.drop 1, cyclesRemaining := s.cyclesRemaining - 1 })
  exact ⟨hcyc, hregs, hi, hp, hr, hie, hw, hh, hcart, hext⟩

/-- Fewer dots than the count only count down. -/
theorem run_of_quiet (n : Nat) (s : State) (hs : s.terminal = false) (hq : quiet n s) (hn : n < s.cyclesRemaining) :
    ∃ t, Sys2Proof.core.run n s = .next t ∧ CountedDown n s t := by
  induction n generalizing s with
  | zero => exact ⟨s, rfl, rfl, rfl, rfl, rfl, rfl, rfl, rfl, rfl, rfl, rfl⟩
  | succ n ih =>
    obtain ⟨t, ht, hdown⟩ := step_of_quiet hs (quiet_one_of_succ hq)
      (Nat.lt_of_le_of_lt (Nat.succ_le_succ n.zero_le) hn)
    obtain ⟨u, hu, hdown'⟩ := ih t ((State.terminal_congr hdown.runState).trans hs) (quiet_of_drop hq hdown.external)
      (by rw [hdown.cyclesRemaining]; omega)
    exact ⟨u, (run_succ n ht).trans hu, Nat.add_comm 1 n ▸ hdown.trans hdown'⟩

/-- Settles O29: dot by dot until the count runs out, and then the dispatch dot. -/
theorem countdownLeavesTheCpu : Obligations.CountdownLeavesTheCpu := by
  refine ⟨fun s n hs hq hn => ?_, fun s t hs hq hc hd => ?_⟩
  · obtain ⟨t, ht, hcyc, hregs, hi, hp, hr, hie, hw, hh, hcart, hext⟩ := run_of_quiet n s hs hq hn
    exact ⟨t, ht, hcyc, hregs, hi, hp, hr, hie, hw, hh, hcart, hext⟩
  · have he := takeEvents_of_quiet hq
    rw [step_of_dispatch (by rw [he]; exact hs) (by rw [he]; exact hc) (by rw [he]; exact hd), afterCpu_eq]

/-! ### The service of an interrupt (R420–R426) -/

/-- R420: bit `k` of the pending interrupts. -/
theorem pending_getLsbD (s : State) (k : Nat) (hk : k < 5) :
    s.pending.getLsbD k = (s.ie.getLsbD k && s.ifr.getLsbD k) := by
  simp [State.pending, hk]

/-- R421, R422: the pending source with no other below it is the one taken. -/
theorem nextIrq_eq_some {s : State} {i : Irq} (h : s.pending.getLsbD i.bit = true)
    (hlow : ∀ k, k < i.bit → s.pending.getLsbD k = false) : s.nextIrq = some i := by
  unfold State.nextIrq
  cases i with
  | vblank => exact if_pos h
  | lcd =>
    rw [hlow 0 (by decide)]
    exact if_pos h
  | timer =>
    rw [hlow 0 (by decide), hlow 1 (by decide)]
    exact if_pos h
  | serial =>
    rw [hlow 0 (by decide), hlow 1 (by decide), hlow 2 (by decide)]
    exact if_pos h
  | joypad =>
    rw [hlow 0 (by decide), hlow 1 (by decide), hlow 2 (by decide), hlow 3 (by decide)]
    exact if_pos h

theorem bit_lt_five (i : Irq) : i.bit < 5 := by cases i <;> decide

/-- R423: a running CPU with IME set takes the interrupt. -/
theorem dispatch_takes {s : State} {i : Irq} (hr : s.runState = .running) (hi : s.ime = true)
    (hn : s.nextIrq = some i) : s.dispatch = .next (s.takeInterrupt i) := by
  rw [dispatch_of_running hr, State.serviceOrExec, hi, hn]

/-- Settles O31: the taken interrupt is a push of PC with the IF bit and IME cleared, and the laws of the push say
where it completes and where it stops. -/
theorem interruptService : Obligations.InterruptService := by
  intro s i hr hi hie hif hlow w
  have hbit (k : Nat) (hk : k < 5) := pending_getLsbD s k hk
  have hnext : s.nextIrq = some i := by
    refine nextIrq_eq_some ?_ fun k hk => ?_
    · rw [hbit _ (bit_lt_five i), hie, hif]
      rfl
    · rw [hbit k (hk.trans (bit_lt_five i)), hlow k hk]
  have htake : s.takeInterrupt i =
      (w.push16 s.regs.pc).run fun _ u => { u.setPc i.vector with cyclesRemaining := 20 } := rfl
  rw [dispatch_takes hr hi hnext, htake]
  refine ⟨fun t u h1 h2 => ?_, fun h => ?_, fun t h1 h2 => ?_⟩
  · rw [State.push16_of_some' (s := w) h1 h2]
    rfl
  · rw [State.push16_of_hole (s := w) h]
    rfl
  · rw [State.push16_of_hole_second (s := w) h1 h2]
    rfl

end Sys2Proof
end

section
/-! PROOFS. Waiting, waking and the end of a run (R391, R392, R412, R424, R440, R441, R505, R522). -/

namespace Sys2Proof

open Sys2Proof.Machine Sys2Proof.Claims

/-! ### Waiting and waking (R391, R392, R424) -/

/-- R420: nothing is pending exactly when no enabled interrupt is requested. -/
theorem pending_eq_zero_iff (s : State) :
    s.pending = 0#5 ↔ ∀ k, k < 5 → (s.ie.getLsbD k && s.ifr.getLsbD k) = false := by
  constructor
  · intro h k hk
    rw [← pending_getLsbD s k hk, h, BitVec.getLsbD_zero]
  · intro h
    apply BitVec.eq_of_getLsbD_eq
    intro k hk
    rw [pending_getLsbD s k hk, h k hk, BitVec.getLsbD_zero]

/-- A CPU that waits after the wake idles one machine cycle (R412). -/
theorem dispatch_waits {s : State} (hr : s.runState = .halted ∨ s.runState = .stopped) (hw : s.wake = s) :
    s.dispatch = .next s.idle := by
  unfold State.dispatch
  rw [hw]
  obtain h | h := hr <;> rw [h]

/-- A CPU that wakes goes on at the same dot as a running one does (R412, R424). -/
theorem dispatch_wakes {s : State} (hw : s.wake = { s with runState := .running }) :
    s.dispatch = { s with runState := .running }.dispatch := by
  have hr : State.runState { s with runState := .running } = .running := rfl
  rw [dispatch_of_running hr]
  unfold State.dispatch
  rw [hw]

theorem wake_halted {s : State} (h : s.runState = .halted) :
    s.wake = if s.pending = 0#5 then s else { s with runState := .running } := by
  unfold State.wake
  rw [h]

theorem wake_stopped {s : State} (h : s.runState = .stopped) :
    s.wake = if s.ifr.getLsbD 4 then { s with runState := .running } else s := by
  unfold State.wake
  rw [h]

/-! ### The end of a run (R522) -/

/-- Whether no interrupt is enabled. -/
theorem ie_low_eq_zero_iff (b : Byte) : b.setWidth 5 = 0#5 ↔ ∀ k, k < 5 → b.getLsbD k = false := by
  constructor
  · intro h k hk
    have hbit := congrArg (·.getLsbD k) h
    simpa [hk] using hbit
  · intro h
    apply BitVec.eq_of_getLsbD_eq
    intro k hk
    simp [h k hk]

theorem haltedForGood_iff (s : State) :
    s.haltedForGood = true ↔ s.runState = .halted ∧ ∀ k, k < 5 → s.ie.getLsbD k = false := by
  rw [State.haltedForGood, Bool.and_eq_true, beq_iff_eq, beq_iff_eq, ie_low_eq_zero_iff]

theorem endState_eq_some_iff (s t : State) : s.endState = some t ↔
    s.takeEvents.cyclesRemaining ≤ 1 ∧ s.takeEvents.runState = .halted ∧
      (∀ k, k < 5 → s.takeEvents.ie.getLsbD k = false) ∧ t = { s.takeEvents with cyclesRemaining := 0 } := by
  have hgood := haltedForGood_iff { s.takeEvents with cyclesRemaining := 0 }
  unfold State.endState State.dispatchState
  dsimp only
  constructor
  · intro h
    split at h
    · next u hu =>
      split at hu <;> cases hu
      next hd =>
        split at h <;> cases h
        next hh => exact ⟨hd.2, (hgood.1 hh).1, (hgood.1 hh).2, rfl⟩
    · cases h
  · rintro ⟨hc, hr, hie, rfl⟩
    have ht : s.takeEvents.terminal = false := by simp [State.terminal, hr]
    rw [if_pos ⟨ht, hc⟩]
    exact if_pos (hgood.2 ⟨hr, hie⟩)

/-! ### Asleep with no interrupt enabled (R391) -/

/-- Halted with no interrupt enabled and no host access to come, with the registers, IE, IME and the memories of the CPU
that `s` has. -/
structure Asleep (s t : State) : Prop where
  runState : t.runState = .halted
  disabled : ∀ k, k < 5 → t.ie.getLsbD k = false
  hostFree : hostFree t
  regs : t.regs = s.regs
  ie : t.ie = s.ie
  ime : t.ime = s.ime
  wram : t.wram = s.wram
  hram : t.hram = s.hram

/-- A request or a clock advance changes none of that. -/
theorem Asleep.applyEvents {s t : State} (h : Asleep s t) (es : List ExternalEvent)
    (hes : ∀ e ∈ es, (∀ a, e ≠ .hostRead a) ∧ ∀ a v, e ≠ .hostWrite a v) : Asleep s (t.applyEvents es) := by
  induction es generalizing t with
  | nil => exact h
  | cons e rest ih =>
    obtain ⟨hread, hwrite⟩ := hes e List.mem_cons_self
    refine ih ?_ fun e he => hes e (List.mem_cons_of_mem _ he)
    cases e with
    | hostRead a => exact absurd rfl (hread a)
    | hostWrite a v => exact absurd rfl (hwrite a v)
    | timerRequest | serialRequest | joypadRequest | rtcAdvance k =>
      exact ⟨h.runState, h.disabled, h.hostFree, h.regs, h.ie, h.ime, h.wram, h.hram⟩

theorem Asleep.takeEvents {s t : State} (h : Asleep s t) : Asleep s t.takeEvents := by
  unfold State.takeEvents
  split
  · exact h
  · next gap rest hext =>
    have hfree := h.hostFree
    unfold Claims.hostFree at hfree
    rw [hext] at hfree
    refine Asleep.applyEvents ?_ gap (hfree gap List.mem_cons_self)
    exact ⟨h.runState, h.disabled, fun g hg => hfree g (List.mem_cons_of_mem _ hg), h.regs, h.ie, h.ime, h.wram, h.hram⟩

/-- The PPU and the DMA engine leave it asleep, whatever the count. -/
theorem Asleep.afterDot {s t : State} (h : Asleep s t) (c : Nat) :
    Asleep s { t with cyclesRemaining := c }.ppuStep.dmaStep := by
  obtain ⟨hw, hh, -, -, hregs, hi, -, hr, -, hie, hext⟩ := dmaStep_frame (State.ppuStep { t with cyclesRemaining := c })
  refine ⟨hr.trans h.runState, ?_, ?_, hregs.trans h.regs, hie.trans h.ie, hi.trans h.ime, hw.trans h.wram,
    hh.trans h.hram⟩
  · rw [hie]
    exact h.disabled
  · unfold Claims.hostFree
    rw [hext]
    exact h.hostFree

theorem Asleep.step {s t : State} (h : Asleep s t) : ∃ u, step t = .next u ∧ Asleep s u := by
  have he := h.takeEvents
  have hterm : t.takeEvents.terminal = false := by simp [State.terminal, he.runState]
  by_cases hc : t.takeEvents.cyclesRemaining ≤ 1
  · have hpend : State.pending { t.takeEvents with cyclesRemaining := 0 } = 0#5 :=
      (pending_eq_zero_iff _).2 fun k hk => by simp [he.disabled k hk]
    have hd : _ = Host.Outcome.next { t.takeEvents with cyclesRemaining := 4 } :=
      dispatch_waits (s := { t.takeEvents with cyclesRemaining := 0 }) (.inl he.runState)
      ((wake_halted (s := { t.takeEvents with cyclesRemaining := 0 }) he.runState).trans (if_pos hpend))
    refine ⟨_, step_of_dispatch hterm hc hd, ?_⟩
    rw [afterCpu_eq,
      if_neg (by rw [show State.terminal { t.takeEvents with cyclesRemaining := 4 } = false from hterm]; decide)]
    exact he.afterDot 4
  · exact ⟨_, step_of_count hterm (Nat.lt_of_not_le hc), he.afterDot _⟩

theorem Asleep.run {s t : State} (h : Asleep s t) (n : Nat) : ∃ u, Sys2Proof.core.run n t = .next u ∧ Asleep s u := by
  induction n generalizing t with
  | zero => exact ⟨t, rfl, h⟩
  | succ n ih =>
    obtain ⟨u, hu, hs⟩ := h.step
    obtain ⟨v, hv, hs'⟩ := ih hs
    exact ⟨v, (run_succ n hu).trans hv, hs'⟩

/-! ### Locked and Faulted machines (R440, R441) -/

/-- A machine that has stopped has crashed, however long the run. -/
theorem runOutcome_of_terminal {s : State} (h : s.terminal = true) (n : Nat) : runOutcome n s = .crashed s := by
  have hend : s.endState = none := by
    unfold State.endState State.dispatchState
    simp [State.terminal_takeEvents h]
  cases n <;> simp [runOutcome, hend, h]

/-- Steps of a machine that has stopped leave its CPU; without events they leave it whole. -/
theorem run_of_terminal (n : Nat) {s : State} (h : s.terminal = true) :
    ∃ t, Sys2Proof.core.run n s = .next t ∧ s.SameCpu t ∧ (s.external = [] → t = s) := by
  induction n generalizing s with
  | zero => exact ⟨s, rfl, .refl s, fun _ => rfl⟩
  | succ n ih =>
    obtain ⟨t, ht, hcpu, hsame⟩ := ih (State.terminal_takeEvents h)
    refine ⟨t, (run_succ n (step_of_terminal h)).trans ht, s.sameCpu_takeEvents.trans hcpu, fun hext => ?_⟩
    rw [State.takeEvents_nil hext] at hsame
    exact hsame hext

/-- Settles O30: the wake decides whether the dispatch idles, the events that may come leave a CPU asleep with no
interrupt enabled, and a machine that has stopped takes its events alone. -/
theorem waitingAndWaking : Obligations.WaitingAndWaking := by
  refine ⟨fun s => ⟨fun hr hp => ?_, fun hr hif => ?_, fun hr hp => ?_, fun hr hif => ?_, pending_eq_zero_iff s⟩,
    endState_eq_some_iff, fun s n hr hie hfree => ?_, fun s hs => ⟨step_of_terminal hs, runOutcome_of_terminal hs⟩,
    fun s n hs => ?_, fun s rest => ⟨rfl, rfl, rfl, fun k => rfl⟩⟩
  · exact dispatch_waits (.inl hr) ((wake_halted hr).trans (if_pos hp))
  · exact dispatch_waits (.inr hr) ((wake_stopped hr).trans (if_neg (by rw [hif]; decide)))
  · exact dispatch_wakes ((wake_halted hr).trans (if_neg hp))
  · exact dispatch_wakes ((wake_stopped hr).trans (if_pos hif))
  · obtain ⟨t, ht, hsleep⟩ := Asleep.run ⟨hr, hie, hfree, rfl, rfl, rfl, rfl, rfl⟩ n
    exact ⟨t, ht, hsleep.runState, hsleep.regs, hsleep.ie, hsleep.ime, hsleep.wram, hsleep.hram⟩
  · obtain ⟨t, ht, hcpu, hsame⟩ := run_of_terminal n hs
    exact ⟨t, ht, hcpu.ended hs, hcpu.regs, hcpu.ime, hcpu.pendingEI, hcpu.cyclesRemaining, hsame⟩

end Sys2Proof
end

section
/-! PROOFS. The address map (R103–R121): the region of each range, what a read and a write of it do, and that a byte
stored is the byte read. -/

namespace Sys2Proof

open Sys2Proof.Machine Sys2Proof.Claims

/-! ### The regions (R103) -/

section Regions
variable {a : Word}

theorem regionOf_rom (h : a.toNat ≤ 0x7FFF) : regionOf a = .rom := if_pos h

theorem regionOf_vram (h : 0x8000 ≤ a.toNat) (h' : a.toNat ≤ 0x9FFF) : regionOf a = .vram := by
  unfold regionOf
  rw [if_neg (by omega), if_pos h']

theorem regionOf_cartRam (h : 0xA000 ≤ a.toNat) (h' : a.toNat ≤ 0xBFFF) : regionOf a = .cartRam := by
  unfold regionOf
  rw [if_neg (by omega), if_neg (by omega), if_pos h']

theorem regionOf_wramFixed (h : 0xC000 ≤ a.toNat) (h' : a.toNat ≤ 0xCFFF) : regionOf a = .wramFixed := by
  unfold regionOf
  rw [if_neg (by omega), if_neg (by omega), if_neg (by omega), if_pos h']

theorem regionOf_wramBanked (h : 0xD000 ≤ a.toNat) (h' : a.toNat ≤ 0xDFFF) : regionOf a = .wramBanked := by
  unfold regionOf
  rw [if_neg (by omega), if_neg (by omega), if_neg (by omega), if_neg (by omega), if_pos h']

theorem regionOf_echo_of_le (h : 0xE000 ≤ a.toNat) (h' : a.toNat ≤ 0xFDFF) : regionOf a = .echo := by
  unfold regionOf
  iterate 5 rw [if_neg (by omega)]
  exact if_pos h'

theorem regionOf_oam (h : 0xFE00 ≤ a.toNat) (h' : a.toNat ≤ 0xFE9F) : regionOf a = .oam := by
  unfold regionOf
  iterate 6 rw [if_neg (by omega)]
  exact if_pos h'

theorem regionOf_prohibited (h : 0xFEA0 ≤ a.toNat) (h' : a.toNat ≤ 0xFEFF) : regionOf a = .prohibited := by
  unfold regionOf
  iterate 7 rw [if_neg (by omega)]
  exact if_pos h'

theorem regionOf_io (h : 0xFF00 ≤ a.toNat) (h' : a.toNat ≤ 0xFF70) : regionOf a = .io := by
  unfold regionOf
  iterate 8 rw [if_neg (by omega)]
  exact if_pos h'

theorem regionOf_hram (h : 0xFF80 ≤ a.toNat) (h' : a.toNat ≤ 0xFFFE) : regionOf a = .hram := by
  unfold regionOf
  iterate 10 rw [if_neg (by omega)]
  exact if_pos h'

theorem regionOf_ie (h : a.toNat = 0xFFFF) : regionOf a = .ie := by
  unfold regionOf
  iterate 10 rw [if_neg (by omega)]
  exact if_neg (by omega)

/-- R110: the mirrored address is in work RAM. -/
theorem regionOf_sub_of_echo (h : 0xE000 ≤ a.toNat) (h' : a.toNat ≤ 0xFDFF) :
    regionOf (a - 0x2000#16) = .wramFixed ∨ regionOf (a - 0x2000#16) = .wramBanked := by
  have hsub : (a - 0x2000#16).toNat = a.toNat - 0x2000 := by bv_omega
  obtain hlow | hhigh := Nat.lt_or_ge a.toNat 0xF000
  · exact .inl (regionOf_wramFixed (by omega) (by omega))
  · exact .inr (regionOf_wramBanked (by omega) (by omega))

end Regions

/-! ### Reads and writes by region (R104, R105, R107, R109–R112) -/

section Bus
variable {s : State} {a : Word} {v : Byte}

/-- R109: the work-RAM cell of the fixed half. -/
theorem wramCell_fixed (h : a.toNat ≤ 0xCFFF) : s.wramCell a = a.toNat - 0xC000 := if_pos h

/-- R109: the work-RAM cell of the banked half. -/
theorem wramCell_banked (h : 0xD000 ≤ a.toNat) :
    s.wramCell a = (if s.colorMode then max 1 s.svbk.toNat else 1) * 0x1000 + (a.toNat - 0xD000) :=
  if_neg (by omega)

/-- R111: OAM is blocked while a DMA transfer is active and in modes 2 and 3. -/
theorem oamBlocked_iff (s : State) :
    s.oamBlocked = true ↔ s.dma.active = true ∨ s.ppu.mode = .oamScan ∨ s.ppu.mode = .drawing := by
  simp only [State.oamBlocked, Bool.or_eq_true, beq_iff_eq, or_assoc]

theorem busRead_wram (h : regionOf a = .wramFixed ∨ regionOf a = .wramBanked) :
    s.busRead a = some (Memory.read s.wram (s.wramCell a)) := by
  unfold State.busRead
  obtain h | h := h <;> rw [h]

theorem busWrite_wram (h : regionOf a = .wramFixed ∨ regionOf a = .wramBanked) :
    s.busWrite a v = some { s with wram := Memory.write s.wram (s.wramCell a) v } := by
  unfold State.busWrite
  obtain h | h := h <;> rw [h]

theorem busRead_cart (h : regionOf a = .rom ∨ regionOf a = .cartRam) : s.busRead a = some (s.cart.read a) := by
  unfold State.busRead
  obtain h | h := h <;> rw [h]

theorem busWrite_cart (h : regionOf a = .rom ∨ regionOf a = .cartRam) :
    s.busWrite a v = some { s with cart := s.cart.write a v } := by
  unfold State.busWrite
  obtain h | h := h <;> rw [h]

end Bus

/-- Settles O40: each range is its region, and the router reads the region's store. -/
theorem readsFollowTheMap : Obligations.ReadsFollowTheMap := by
  intro s a n
  refine ⟨fun h => ?_, fun ⟨h, h'⟩ => ?_, fun ⟨h, h'⟩ => ?_, fun ⟨h, h'⟩ => ?_, fun ⟨h, h'⟩ => ?_, fun ⟨h, h'⟩ => ?_,
    fun ⟨h, h'⟩ => ?_, fun ⟨h, h'⟩ => ?_, fun h => (s.busRead_eq_none a).2 ((regionOf_hole a).2 h), fun ⟨h, h'⟩ => ?_,
    fun h => ?_⟩
  · exact busRead_cart (h.imp regionOf_rom fun h => regionOf_cartRam h.1 h.2)
  · unfold State.busRead
    rw [regionOf_vram h h']
    rfl
  · rw [busRead_wram (.inl (regionOf_wramFixed h h')), wramCell_fixed h']
  · rw [busRead_wram (.inr (regionOf_wramBanked h h')), wramCell_banked h]
  · rw [busRead_wram (regionOf_sub_of_echo h h')]
    unfold State.busRead
    rw [regionOf_echo_of_le h h']
    rfl
  · unfold State.busRead
    rw [regionOf_oam h h']
    simp only [oamBlocked_iff]
    rfl
  · unfold State.busRead
    rw [regionOf_prohibited h h']
    rfl
  · unfold State.busRead
    rw [regionOf_io h h']
  · unfold State.busRead
    rw [regionOf_hram h h']
  · unfold State.busRead
    rw [regionOf_ie h]

/-- Settles O41: each range is its region, and the router writes the region's store alone. -/
theorem writesFollowTheMap : Obligations.WritesFollowTheMap := by
  intro s a v n
  refine ⟨fun h => ?_, fun ⟨h, h'⟩ => ?_, fun ⟨h, h'⟩ => ?_, fun ⟨h, h'⟩ => ?_, fun ⟨h, h'⟩ => ?_, fun ⟨h, h'⟩ => ?_,
    fun ⟨h, h'⟩ => ?_, fun ⟨h, h'⟩ => ?_, fun h => (s.busWrite_eq_none a v).2 ((regionOf_hole a).2 h),
    fun ⟨h, h'⟩ => ?_,
    fun h => ?_⟩
  · exact busWrite_cart (h.imp regionOf_rom fun h => regionOf_cartRam h.1 h.2)
  · unfold State.busWrite
    rw [regionOf_vram h h']
    rfl
  · rw [busWrite_wram (.inl (regionOf_wramFixed h h')), wramCell_fixed h']
  · rw [busWrite_wram (.inr (regionOf_wramBanked h h')), wramCell_banked h]
  · rw [busWrite_wram (regionOf_sub_of_echo h h')]
    unfold State.busWrite
    rw [regionOf_echo_of_le h h']
    rfl
  · unfold State.busWrite
    rw [regionOf_oam h h']
    simp only [oamBlocked_iff]
    rfl
  · unfold State.busWrite
    rw [regionOf_prohibited h h']
  · unfold State.busWrite
    rw [regionOf_io h h']
  · unfold State.busWrite
    rw [regionOf_hram h h']
  · unfold State.busWrite
    rw [regionOf_ie h]

/-! ### Read after write, and reads alone (R116, R120, R135) -/

/-- Settles O42: the region's store is written and read at the same cell, and a canonical store reads back what was
written. -/
theorem readAfterWrite : Obligations.ReadAfterWrite := by
  intro s t a v hs hw hr
  obtain ⟨hwram, hhram, hppu, -, -⟩ := s.memoriesWf_iff.1 hs
  simp only [Ppu.memoriesWf, Bool.and_eq_true] at hppu
  obtain ⟨⟨⟨⟨hvram, hoam⟩, -⟩, -⟩, -⟩ := hppu
  have hback (m : Memory) (hm : Memory.wf m = true) (k : Nat) : Memory.read (Memory.write m k v) k = v := by
    rw [Memory.read_write hm, if_pos rfl]
  obtain h | h | h | h | h | ⟨h, hb⟩ | ⟨h, hb⟩ := hr
  all_goals
    unfold State.busWrite at hw
    unfold State.busRead
    simp only [h] at hw ⊢
  · cases hw; exact congrArg some (hback _ hwram _)
  · cases hw; exact congrArg some (hback _ hwram _)
  · cases hw; exact congrArg some (hback _ hwram _)
  · cases hw; exact congrArg some (hback _ hhram _)
  · cases hw; rfl
  · simp only [hb, Bool.false_eq_true, if_false, Option.some.injEq] at hw
    subst hw
    simp only [hb, Bool.false_eq_true, if_false]
    exact congrArg some (hback _ hvram _)
  · simp only [hb, Bool.false_eq_true, if_false, Option.some.injEq] at hw
    subst hw
    have hb' : State.oamBlocked
        { s with ppu := { s.ppu with oam := Memory.write s.ppu.oam (a.toNat - 0xFE00) v } } = false := hb
    simp only [hb', Bool.false_eq_true, if_false]
    exact congrArg some (hback _ hoam _)

/-- The peripheral addresses (R116). -/
theorem isEnvAddr_of_le {a : Word} (h : 0xFF00 ≤ a.toNat) (h' : a.toNat ≤ 0xFF3F) (hne : a ≠ 0xFF0F#16) :
    isEnvAddr a = true := by
  have hn : a.toNat ≠ 0xFF0F := fun hn => hne (BitVec.eq_of_toNat_eq hn)
  simp [isEnvAddr, h, h', hn]

/-- Settles O43: a read that completes leaves `afterRead`, and a peripheral address is an environment draw and a sink.
-/
theorem readsHaveNoSideEffect : Obligations.ReadsHaveNoSideEffect := by
  refine ⟨fun s t a v h => ?_, fun s a v h h' hne => ?_⟩
  · obtain ⟨w, -, hr⟩ | ⟨-, hr⟩ := s.read_cases a <;> cases hr.symm.trans h
    refine ⟨?_, fun henv => s.afterRead_of_not_env a henv⟩
    unfold State.afterRead
    split <;> rfl
  · have henv := isEnvAddr_of_le h h' hne
    have hio := regionOf_io h (h'.trans (by decide))
    constructor
    · have hread : s.busRead a = some (Config.envByte s.envDraws a) := by
        unfold State.busRead State.ioRead
        rw [hio]
        simp only [hne, henv, if_false, if_true]
      rw [State.read_of_some hread, State.afterRead, henv]
      rfl
    · have hwrite : s.busWrite a v = some { s with envWrites := (a, v) :: s.envWrites } := by
        unfold State.busWrite State.ioWrite
        rw [hio]
        simp only [hne, henv, if_false, if_true]
      exact State.write_of_some hwrite

end Sys2Proof
end

section
/-! PROOFS. The I/O registers on the bus (R113, R114): each register's read and write, and the LCD's turning on and
off. -/

namespace Sys2Proof

open Sys2Proof.Machine Sys2Proof.Claims

/-! ### What the bits kept and read are (D15, D19, D30, D44) -/

theorem ones_append_interruptFlags (x : BitVec 5) : 0b111#3 ++ x = 0xE0#8 ||| x.setWidth 8 := by
  revert x; decide

theorem setWidth_eq_ofNat_mod {w k n : Nat} (v : BitVec w) (h : n = 2 ^ k) :
    v.setWidth k = BitVec.ofNat k (v.toNat % n) := by
  apply BitVec.eq_of_toNat_eq
  rw [BitVec.toNat_setWidth, BitVec.toNat_ofNat, h, Nat.mod_mod]

theorem extractLsb'_statSel (v : Byte) : v.extractLsb' 3 4 = BitVec.ofNat 4 (v.toNat / 8 % 16) := by
  apply BitVec.eq_of_toNat_eq
  simp [BitVec.extractLsb'_toNat, Nat.shiftRight_eq_div_pow]

theorem statByte_eq (p : Ppu) : p.statByte = BitVec.ofNat 8 (128 + 8 * p.statSel.toNat +
    (if p.ly = p.lyc then 4 else 0) + modeNumber p.mode) := by
  have hbits (sel : BitVec 4) (m : PpuMode) :
      1#1 ++ sel ++ BitVec.ofBool true ++ m.bits = BitVec.ofNat 8 (128 + 8 * sel.toNat + 4 + modeNumber m) ∧
      1#1 ++ sel ++ BitVec.ofBool false ++ m.bits = BitVec.ofNat 8 (128 + 8 * sel.toNat + 0 + modeNumber m) := by
    cases m <;> revert sel <;> decide
  unfold Ppu.statByte
  by_cases h : p.ly = p.lyc
  · rw [if_pos h, beq_iff_eq.2 h]
    exact (hbits _ _).1
  · rw [if_neg h, beq_eq_false_iff_ne.2 h]
    exact (hbits _ _).2

theorem vbkRead (x : BitVec 1) : 0xFE#8 ||| x.setWidth 8 = BitVec.ofNat 8 (0xFE + x.toNat) := by
  revert x; decide

theorem svbkRead (x : BitVec 3) : 0xF8#8 ||| x.setWidth 8 = BitVec.ofNat 8 (0xF8 + x.toNat) := by
  revert x; decide

/-- `DmaStart(v)` latches the source below 0xE000 (R495). -/
theorem dmaStart_eq (v : Byte) : Dma.start v =
    { active := true, delay := 8, count := 0, sub := 0, reg := v,
      src := BitVec.ofNat 16 (if v.toNat < 0xE0 then 256 * v.toNat else 256 * v.toNat - 0x2000) } := by
  have hsrc : (mkWord v 0x00#8).toNat = 256 * v.toNat := by
    unfold mkWord
    rw [BitVec.toNat_append]
    simp [Nat.shiftLeft_eq, Nat.mul_comm]
  have hv := v.isLt
  suffices hlatch : (if 0xE000 ≤ (mkWord v 0x00#8).toNat then mkWord v 0x00#8 - 0x2000#16 else mkWord v 0x00#8) =
      BitVec.ofNat 16 (if v.toNat < 0xE0 then 256 * v.toNat else 256 * v.toNat - 0x2000) by
    rw [← hlatch]
    rfl
  apply BitVec.eq_of_toNat_eq
  by_cases h : v.toNat < 0xE0
  · rw [if_neg (by omega), if_pos h, hsrc, BitVec.toNat_ofNat]
    omega
  · rw [if_pos (by omega), if_neg h, BitVec.toNat_sub, hsrc, BitVec.toNat_ofNat, BitVec.toNat_ofNat]
    omega

/-! ### The palette ports' index (R58) -/

theorem getLsbD_seven (v : Byte) : v.getLsbD 7 = decide (128 ≤ v.toNat) := 
  (BitVec.msb_eq_getLsbD_last v).symm.trans (BitVec.msb_eq_decide v)

theorem nextPaletteIndex_of_lt {b : Byte} (h : b.toNat < 128) : nextPaletteIndex b = b := by
  have h7 : b.getLsbD 7 = false := by rw [getLsbD_seven]; exact decide_eq_false (by omega)
  unfold nextPaletteIndex
  rw [h7]
  rfl

theorem nextPaletteIndex_of_le {b : Byte} (h : 128 ≤ b.toNat) :
    (nextPaletteIndex b).toNat = 128 + (b.toNat + 1) % 64 := by
  have h7 : b.getLsbD 7 = true := by rw [getLsbD_seven]; exact decide_eq_true h
  have htop : b &&& 0x80#8 = 0x80#8 := by
    have := BitVec.and_twoPow b 7
    rw [h7] at this
    exact this
  have hlow : ((b + 1) &&& 0x3F#8).toNat = (b.toNat + 1) % 64 := by
    rw [BitVec.toNat_and, BitVec.toNat_add]
    show (b.toNat + 1) % 256 &&& (2 ^ 6 - 1) = _
    rw [Nat.and_two_pow_sub_one_eq_mod]
    omega
  unfold nextPaletteIndex
  rw [h7, if_pos rfl, htop, BitVec.toNat_or, hlow]
  exact (Nat.two_pow_add_eq_or_of_lt (i := 7) (by omega) 1).symm

/-! ### The registers of each group -/

/-- Settles O44: the bits kept are the low five, and 0b111 above them is 0xE0. -/
theorem interruptRegisters : Obligations.InterruptRegisters := fun s v =>
  ⟨rfl, rfl, congrArg some (ones_append_interruptFlags s.ifr), by
    rw [← setWidth_eq_ofNat_mod (k := 5) (n := 32) v rfl]; rfl⟩

/-- Settles O45: STAT's byte and DMA's start are computed above; the other registers are their fields. -/
theorem lcdRegisters : Obligations.LcdRegisters := fun s v =>
  ⟨by rw [← extractLsb'_statSel v]; rfl, congrArg some (statByte_eq s.ppu), rfl, rfl, rfl, rfl, rfl, rfl, rfl, rfl, rfl,
    rfl, rfl, rfl, rfl, rfl, by rw [← dmaStart_eq v]; rfl⟩

/-! ### Colour gating (R54–R59, R117) -/

section Gating
variable {s : State} {a : Word}

/-- 0xFF40–0xFF70 is answered by the video registers. -/
theorem busRead_video (h : 0xFF40 ≤ a.toNat) (h' : a.toNat ≤ 0xFF70) : s.busRead a = some (s.videoRead a) := by
  have hif : a ≠ 0xFF0F#16 := by rintro rfl; exact absurd h (by decide)
  have henv : isEnvAddr a = false := by simp [isEnvAddr]; omega
  unfold State.busRead State.ioRead
  rw [regionOf_io (by omega) h']
  simp only [hif, henv, if_false, Bool.false_eq_true]

theorem busWrite_video (h : 0xFF40 ≤ a.toNat) (h' : a.toNat ≤ 0xFF70) (v : Byte) :
    s.busWrite a v = some (s.videoWrite a v) := by
  have hif : a ≠ 0xFF0F#16 := by rintro rfl; exact absurd h (by decide)
  have henv : isEnvAddr a = false := by simp [isEnvAddr]; omega
  unfold State.busWrite State.ioWrite
  rw [regionOf_io (by omega) h']
  simp only [hif, henv, if_false, Bool.false_eq_true]

/-- The colour range is the last of the video registers. -/
theorem videoRead_color (h : 0xFF4C ≤ a.toNat) :
    s.videoRead a = if s.colorMode then s.colorRead a else Config.openBus := by
  unfold State.videoRead
  split
  case h_13 => rfl
  all_goals omega

theorem videoWrite_color (h : 0xFF4C ≤ a.toNat) (v : Byte) :
    s.videoWrite a v = if s.colorMode then s.colorWrite a v else s := by
  unfold State.videoWrite
  split
  case h_13 => rfl
  all_goals omega

/-- The six registers of the colour range. -/
def colourRegisters : List Word := [0xFF4F#16, 0xFF68#16, 0xFF69#16, 0xFF6A#16, 0xFF6B#16, 0xFF70#16]

theorem toNat_ne_of_not_mem (h : a ∉ colourRegisters) : a.toNat ≠ 0xFF4F ∧ a.toNat ≠ 0xFF68 ∧ a.toNat ≠ 0xFF69 ∧
    a.toNat ≠ 0xFF6A ∧ a.toNat ≠ 0xFF6B ∧ a.toNat ≠ 0xFF70 := by
  have hne (w : Word) (hw : w ∈ colourRegisters) : a.toNat ≠ w.toNat := fun he =>
    h (BitVec.eq_of_toNat_eq he ▸ hw)
  exact ⟨hne 0xFF4F#16 (by decide), hne 0xFF68#16 (by decide), hne 0xFF69#16 (by decide), hne 0xFF6A#16 (by decide),
    hne 0xFF6B#16 (by decide), hne 0xFF70#16 (by decide)⟩

theorem colorRead_openBus (h : a ∉ colourRegisters) : s.colorRead a = Config.openBus := by
  obtain ⟨h1, h2, h3, h4, h5, h6⟩ := toNat_ne_of_not_mem h
  unfold State.colorRead
  split
  case h_7 => rfl
  all_goals contradiction

theorem colorWrite_dropped (h : a ∉ colourRegisters) (v : Byte) : s.colorWrite a v = s := by
  obtain ⟨h1, h2, h3, h4, h5, h6⟩ := toNat_ne_of_not_mem h
  have hpal : s.ppu.paletteWrite a v = s.ppu := by
    unfold Ppu.paletteWrite
    split
    · rfl
    · split
      case h_5 => rfl
      all_goals contradiction
  unfold State.colorWrite
  split
  · contradiction
  · contradiction
  · rw [hpal]

end Gating

/-- Settles O46: the registers by name, then the two ranges that answer the open bus. -/
theorem colourGating : Obligations.ColourGating := by
  refine ⟨fun s v hm => ?_, fun s a v hm h h' => ?_, fun s a v h h' hout => ?_, fun s v hm => ?_⟩
  · have hread (x : Byte) : (if s.colorMode then Config.openBus else x) = x := by rw [hm]; rfl
    have hwrite (t : State) : (if s.colorMode then s else t) = t := by rw [hm]; rfl
    exact ⟨congrArg some (hread _), congrArg some (hwrite _), congrArg some (hread _), congrArg some (hwrite _),
      congrArg some (hread _), congrArg some (hwrite _)⟩
  · rw [busRead_video (by omega) (by omega), busWrite_video (by omega) (by omega)]
    have ha : a.toNat = 0xFF47 ∨ a.toNat = 0xFF48 ∨ a.toNat = 0xFF49 := by omega
    unfold State.videoRead State.videoWrite
    obtain ha | ha | ha := ha <;> rw [ha] <;> simp only [hm, if_true, and_true] <;> rfl
  · rw [busRead_video (by omega) h', busWrite_video (by omega) h', videoRead_color h, videoWrite_color h]
    cases hm : s.colorMode with
    | false => exact ⟨rfl, rfl⟩
    | true =>
      obtain hd | hout := hout
      · rw [hm] at hd
        exact Bool.noConfusion hd
      · rw [colorRead_openBus hout, colorWrite_dropped hout]
        exact ⟨rfl, rfl⟩
  · have hread (a : Word) (h : 0xFF4C ≤ a.toNat) (h' : a.toNat ≤ 0xFF70) : s.busRead a = some (s.colorRead a) := by
      rw [busRead_video (by omega) h', videoRead_color h, if_pos hm]
    have hwrite (a : Word) (h : 0xFF4C ≤ a.toNat) (h' : a.toNat ≤ 0xFF70) :
        s.busWrite a v = some (s.colorWrite a v) := by
      rw [busWrite_video (by omega) h', videoWrite_color h, if_pos hm]
    rw [hread 0xFF4F#16 (by decide) (by decide), hread 0xFF70#16 (by decide) (by decide),
      hwrite 0xFF4F#16 (by decide) (by decide), hwrite 0xFF70#16 (by decide) (by decide),
      ← setWidth_eq_ofNat_mod (k := 1) (n := 2) v rfl, ← setWidth_eq_ofNat_mod (k := 3) (n := 8) v rfl]
    exact ⟨congrArg some (vbkRead _), rfl, congrArg some (svbkRead _), rfl⟩

/-! ### The palette ports (R58) -/

/-- The four palette ports. -/
def palettePortAddresses : List Word := [0xFF68#16, 0xFF69#16, 0xFF6A#16, 0xFF6B#16]

theorem busWrite_palette {s : State} (hm : s.colorMode = true) {a : Word} (ha : a ∈ palettePortAddresses) (v : Byte) :
    s.busWrite a v = some { s with ppu := s.ppu.paletteWrite a v } := by
  have key : ∀ a ∈ palettePortAddresses, s.busWrite a v =
      some (if s.colorMode then { s with ppu := s.ppu.paletteWrite a v } else s) := by
    simp only [palettePortAddresses, List.forall_mem_cons]
    exact ⟨rfl, rfl, rfl, rfl, List.forall_mem_nil _⟩
  rw [key a ha, if_pos hm]

/-- Settles O47: each port by name; the index after a data write is `nextPaletteIndex`. -/
theorem palettePorts : Obligations.PalettePorts := by
  intro s v hm
  have hread (x : Byte) : (if s.colorMode then x else Config.openBus) = x := by rw [hm]; rfl
  refine ⟨congrArg some (hread _), congrArg some (hread _), congrArg some (hread _), congrArg some (hread _), ?_, ?_⟩
  · intro hd a ha
    rw [busWrite_palette hm ha, Ppu.paletteWrite, if_pos hd]
  · intro hd
    have hwrite {a : Word} (ha : a ∈ palettePortAddresses) :
        s.busWrite a v = some { s with ppu := s.ppu.paletteWrite a v } :=
      busWrite_palette hm ha v
    rw [hwrite (a := 0xFF69#16) (by decide), hwrite (a := 0xFF6B#16) (by decide), hwrite (a := 0xFF68#16) (by decide),
      hwrite (a := 0xFF6A#16) (by decide)]
    simp only [Ppu.paletteWrite, if_neg hd]
    exact ⟨⟨_, rfl, rfl, nextPaletteIndex_of_lt, nextPaletteIndex_of_le⟩,
      ⟨_, rfl, rfl, nextPaletteIndex_of_lt, nextPaletteIndex_of_le⟩, rfl, rfl⟩

/-! ### LCDC (R494) -/

theorem busWrite_lcdc (s : State) (v : Byte) : s.busWrite 0xFF40#16 v = some { s with ppu := s.ppu.lcdcWrite v } := rfl

/-- Line 0 begins with the window's trigger set anew (R461). -/
theorem wyTriggered_newFrame (b : Bool) (wy : Byte) :
    (b && !(0#8 == 0#8) || 0#8 == wy) = decide (wy = 0#8) := by
  have heq : (0#8 == wy) = decide (wy = 0#8) := (Bool.beq_eq_decide_eq 0#8 wy).trans (decide_eq_decide.2 eq_comm)
  rw [beq_self_eq_true, Bool.not_true, Bool.and_false, Bool.false_or, heq]

/-- Settles O48: the three cases of `LcdcWrite`; the step of a PPU that is off is `step_off`. -/
theorem lcdOnAndOff : Obligations.LcdOnAndOff := by
  refine ⟨fun s v hp hv => ?_, fun s v hp hv => ?_, fun s v hp => ?_, fun color p h => step_off color p h⟩
  · rw [busWrite_lcdc, Ppu.lcdcWrite, hp, hv]
    rfl
  · rw [busWrite_lcdc, Ppu.lcdcWrite, hp, hv, ← wyTriggered_newFrame s.ppu.wyTriggered]
    rfl
  · rw [busWrite_lcdc, Ppu.lcdcWrite, ← hp]
    simp only [Bool.and_not_self, Bool.not_and_self, Bool.false_eq_true, if_false]

end Sys2Proof
end

section
/-! PROOFS. The cartridges (R153–R195): bank masking, the control registers of each variant, and the real-time clock. -/

namespace Sys2Proof

open Sys2Proof.Machine Sys2Proof.Claims

/-! ### Register bits as numbers -/

theorem and_mask_eq_ofNat_mod {w m n : Nat} (k : Nat) (v : BitVec w) (hm : m = 2 ^ k - 1) (hn : n = 2 ^ k)
    (hk : k ≤ w) : v &&& BitVec.ofNat w m = BitVec.ofNat w (v.toNat % n) := by
  have hle : 2 ^ k ≤ 2 ^ w := Nat.pow_le_pow_right (by decide) hk
  have hpos : 0 < 2 ^ k := Nat.two_pow_pos k
  apply BitVec.eq_of_toNat_eq
  rw [BitVec.toNat_and, BitVec.toNat_ofNat, BitVec.toNat_ofNat, hm, hn, Nat.mod_eq_of_lt (a := 2 ^ k - 1) (by omega),
    Nat.and_two_pow_sub_one_eq_mod, Nat.mod_eq_of_lt (a := v.toNat % 2 ^ k)]
  exact (Nat.mod_lt _ hpos).trans_le hle

theorem getLsbD_eq_decide {w : Nat} (v : BitVec w) (i : Nat) : v.getLsbD i = decide (v.toNat / 2 ^ i % 2 = 1) :=
  Nat.testBit_eq_decide_div_mod_eq

theorem enablesRam_eq (v : Byte) : enablesRam v = decide (v.toNat % 16 = 10) :=
  (Bool.beq_eq_decide_eq _ _).trans (decide_eq_decide.2 (lowNibble_eq_iff v 0x0A#8))

/-- Value 0 of a bank register is bank 1 (R161). -/
theorem zeroToOne_setWidth (w : Nat) (v : Byte) :
    zeroToOne (v.setWidth w) = BitVec.ofNat w (aliased (v.toNat % 2 ^ w)) := by
  have hv : v.setWidth w = BitVec.ofNat w (v.toNat % 2 ^ w) := setWidth_eq_ofNat_mod v rfl
  have hiff : v.setWidth w = 0#w ↔ v.toNat % 2 ^ w = 0 := by
    rw [← BitVec.toNat_inj, BitVec.toNat_setWidth]
    rfl
  unfold zeroToOne aliased
  simp only [hiff]
  split
  · rfl
  · exact hv

/-! ### Banks and ranges (R106, R153) -/

theorem and_pred_of_two_pow {n : Nat} (hn : ∃ k, n = 2 ^ k) (b : Nat) : b &&& (n - 1) = b % n := by
  obtain ⟨k, rfl⟩ := hn
  exact Nat.and_two_pow_sub_one_eq_mod b k

section Banks
variable {c : Cart} (h : bankCounts c)
include h

theorem romByte_eq_romAt (bank o : Nat) : c.romByte bank o = romAt c bank o := by
  rw [Cart.romByte, and_pred_of_two_pow h.1]
  rfl

theorem ramCell_eq (hne : c.ramBanks ≠ 0) (bank o : Nat) : c.ramCell bank o = bank % c.ramBanks * 0x2000 + o := by
  rw [Cart.ramCell, and_pred_of_two_pow (h.2.resolve_left hne)]
  rfl

theorem ramRead_eq_ramAt (gate : Bool) (bank o : Nat) : c.ramRead gate bank o = ramAt c gate bank o := by
  unfold Cart.ramRead ramAt
  by_cases hg : gate = true ∧ c.ramBanks ≠ 0
  · rw [if_pos hg, if_pos (by simpa using hg), ramCell_eq h hg.2]
  · rw [if_neg hg, if_neg (by simpa using hg)]
    rfl

theorem ramWrite_eq_ramPut (gate : Bool) (bank o : Nat) (v : Byte) :
    c.ramWrite gate bank o v = ramPut c gate bank o v := by
  unfold Cart.ramWrite ramPut
  by_cases hg : gate = true ∧ c.ramBanks ≠ 0
  · rw [if_pos hg, if_pos (by simpa using hg), ramCell_eq h hg.2]
  · rw [if_neg hg, if_neg (by simpa using hg)]

theorem read_lowRom {a : Word} (ha : a.toNat < 0x4000) : c.read a = romAt c c.lowRomBank a.toNat := by
  rw [Cart.read, if_pos (by omega), Cart.readRom, if_pos ha, romByte_eq_romAt h]

theorem read_highRom {a : Word} (ha : 0x4000 ≤ a.toNat) (ha' : a.toNat < 0x8000) :
    c.read a = romAt c c.highRomBank (a.toNat - 0x4000) := by
  rw [Cart.read, if_pos ha', Cart.readRom, if_neg (by omega), romByte_eq_romAt h]

end Banks

theorem read_cartRam {c : Cart} {a : Word} (ha : 0xA000 ≤ a.toNat) : c.read a = c.readRam a := if_neg (by omega)

theorem write_cartRam {c : Cart} {a : Word} (ha : 0xA000 ≤ a.toNat) (v : Byte) : c.write a v = c.writeRam a v :=
  if_neg (by omega)

theorem write_control {c : Cart} {a : Word} (ha : a.toNat < 0x8000) (v : Byte) : c.write a v = c.writeControl a v :=
  if_pos ha

/-! ### MBC1 and MBC1M (R160–R165, R168, R169) -/

/-- What a variant with MBC1's registers does with them. -/
structure IsMbc1 (w : Nat) (tag : Mbc1Regs w → Mbc) : Prop where
  control : ∀ (c : Cart) (r : Mbc1Regs w) (a : Word) (v : Byte), c.mbc = tag r →
    c.writeControl a v = { c with mbc := tag (r.control a v) }
  lowRomBank : ∀ (c : Cart) (r : Mbc1Regs w), c.mbc = tag r → c.lowRomBank = r.lowBank
  highRomBank : ∀ (c : Cart) (r : Mbc1Regs w), c.mbc = tag r → c.highRomBank = r.highBank
  readRam : ∀ (c : Cart) (r : Mbc1Regs w) (a : Word), c.mbc = tag r →
    c.readRam a = c.ramRead r.ramEnable r.ramBank (a.toNat - 0xA000)
  writeRam : ∀ (c : Cart) (r : Mbc1Regs w) (a : Word) (v : Byte), c.mbc = tag r →
    c.writeRam a v = c.ramWrite r.ramEnable r.ramBank (a.toNat - 0xA000) v

theorem isMbc1_mbc1 : IsMbc1 5 .mbc1 := by
  constructor <;> intro c r
  · intro a v h; rw [Cart.writeControl, h]
  · intro h; rw [Cart.lowRomBank, h]
  · intro h; rw [Cart.highRomBank, h]
  · intro a h; rw [Cart.readRam, h]
  · intro a v h; rw [Cart.writeRam, h]

theorem isMbc1_mbc1m : IsMbc1 4 .mbc1m := by
  constructor <;> intro c r
  · intro a v h; rw [Cart.writeControl, h]
  · intro h; rw [Cart.lowRomBank, h]
  · intro h; rw [Cart.highRomBank, h]
  · intro a h; rw [Cart.readRam, h]
  · intro a v h; rw [Cart.writeRam, h]

theorem lowBank_eq {w : Nat} (r : Mbc1Regs w) : r.lowBank = 2 ^ w * (if r.mode = 1#1 then r.bank2.toNat else 0) := by
  unfold Mbc1Regs.lowBank
  split
  · rw [Nat.shiftLeft_eq, Nat.mul_comm]
  · rfl

theorem highBank_eq {w : Nat} (r : Mbc1Regs w) : r.highBank = 2 ^ w * r.bank2.toNat + r.bank1.toNat := by
  rw [Mbc1Regs.highBank, ← Nat.shiftLeft_add_eq_or_of_lt r.bank1.isLt, Nat.shiftLeft_eq, Nat.mul_comm]

theorem mbc1Rules_of_isMbc1 {w : Nat} {tag : Mbc1Regs w → Mbc} (ht : IsMbc1 w tag) : mbc1Rules w tag := by
  intro c r a v hb hc high
  refine ⟨fun h => ?_, fun h h' => ?_, fun h h' => ?_, fun h h' => ?_, fun h => ?_, fun h h' => ?_, fun h h' => ?_⟩
  · rw [write_control (by omega), ht.control c r a v hc, Mbc1Regs.control, if_pos h, enablesRam_eq]
  · rw [write_control (by omega), ht.control c r a v hc, Mbc1Regs.control, if_neg (by omega), if_pos h',
      zeroToOne_setWidth]
  · rw [write_control (by omega), ht.control c r a v hc, Mbc1Regs.control, if_neg (by omega), if_neg (by omega),
      if_pos h', setWidth_eq_ofNat_mod (k := 2) (n := 4) v rfl]
  · rw [write_control (by omega), ht.control c r a v hc, Mbc1Regs.control, if_neg (by omega), if_neg (by omega),
      if_neg (by omega), setWidth_eq_ofNat_mod (k := 1) (n := 2) v rfl]
  · rw [read_lowRom hb h, ht.lowRomBank c r hc, lowBank_eq]
  · rw [read_highRom hb h h', ht.highRomBank c r hc, highBank_eq]
  · rw [read_cartRam h, write_cartRam h, ht.readRam c r a hc, ht.writeRam c r a v hc, ramRead_eq_ramAt hb,
      ramWrite_eq_ramPut hb]
    exact ⟨rfl, rfl⟩

/-- Settles O49: the two variants differ in the width of the bank register alone. -/
theorem mbc1Cartridges : Obligations.Mbc1Cartridges :=
  ⟨mbc1Rules_of_isMbc1 isMbc1_mbc1, mbc1Rules_of_isMbc1 isMbc1_mbc1m⟩

/-! ### MBC2 (R170–R174) -/

/-- Settles O50: the control writes by address bit 8, then the banks and the echoed array. -/
theorem mbc2Cartridge : Obligations.Mbc2Cartridge := by
  intro c r a v hb hc
  have hcontrol (h : a.toNat < 0x8000) : c.write a v = { c with mbc := .mbc2 (r.control a v) } := by
    rw [write_control h, Cart.writeControl, hc]
  have hbit : a.getLsbD 8 = decide (a.toNat / 256 % 2 = 1) := getLsbD_eq_decide a 8
  have hecho : a.toNat &&& 0x01FF = a.toNat % 512 := Nat.and_two_pow_sub_one_eq_mod a.toNat 9
  refine ⟨fun h h8 => ?_, fun h h8 => ?_, fun h h' => ?_, fun h => ?_, fun h h' => ?_, fun h h' he => ?_,
    fun h h' he => ?_⟩
  · rw [hcontrol (by omega), Mbc2Regs.control, if_neg (by omega), if_neg (by rw [hbit, h8]; decide), enablesRam_eq]
  · rw [hcontrol (by omega), Mbc2Regs.control, if_neg (by omega), if_pos (by rw [hbit, h8]; decide),
      zeroToOne_setWidth]
    rfl
  · rw [hcontrol h', Mbc2Regs.control, if_pos h, ← hc]
  · rw [read_lowRom hb h, Cart.lowRomBank, hc]
  · rw [read_highRom hb h h', Cart.highRomBank, hc]
  · rw [read_cartRam h, write_cartRam h, Cart.readRam, Cart.writeRam, hc]
    simp only [he, Bool.false_eq_true, if_false]
    exact ⟨rfl, trivial⟩
  · have hlow : v &&& 0x0F#8 = BitVec.ofNat 8 (v.toNat % 16) := and_mask_eq_ofNat_mod 4 v rfl rfl (by decide)
    rw [read_cartRam h, write_cartRam h, Cart.readRam, Cart.writeRam, hc]
    simp only [he, if_true, hecho, hlow]
    exact ⟨trivial, trivial⟩

/-! ### MBC3 (R175–R181, R183) -/

section Mbc3
variable {c : Cart} {r : Mbc3Regs} {a : Word} (hc : c.mbc = .mbc3 r)
include hc

theorem readRam_mbc3 : c.readRam a =
    if r.ramEnable && decide (r.select.toNat ≤ 0x03) then c.ramRead true r.select.toNat (a.toNat - 0xA000)
    else if r.ramEnable && selectsRtc r.select && r.hasRtc then r.latched.read r.select
    else Config.openBus := by
  rw [Cart.readRam, hc]

theorem writeRam_mbc3 (v : Byte) : c.writeRam a v =
    if r.ramEnable && decide (r.select.toNat ≤ 0x03) then c.ramWrite true r.select.toNat (a.toNat - 0xA000) v
    else if r.ramEnable && selectsRtc r.select && r.hasRtc then
      { c with mbc := .mbc3 { r with live := r.live.write r.select v } }
    else c := by
  rw [Cart.writeRam, hc]

/-- Select values 0 to 3 choose a RAM bank (R180). -/
theorem mbc3_ramBank (hb : bankCounts c) (hsel : r.select.toNat ≤ 3) (v : Byte) :
    c.readRam a = ramAt c r.ramEnable r.select.toNat (a.toNat - 0xA000) ∧
    c.writeRam a v = ramPut c r.ramEnable r.select.toNat (a.toNat - 0xA000) v := by
  rw [readRam_mbc3 hc, writeRam_mbc3 hc, decide_eq_true hsel]
  cases r.ramEnable with
  | true => exact ⟨ramRead_eq_ramAt hb true _ _, ramWrite_eq_ramPut hb true _ _ v⟩
  | false => exact ⟨rfl, rfl⟩

/-- Select values 8 to 12 choose a clock register: the latched one is read, the live one written (R181, R183). -/
theorem mbc3_clock (he : r.ramEnable = true) (hrtc : r.hasRtc = true) (hsel : selectsRtc r.select = true) (v : Byte) :
    c.readRam a = r.latched.read r.select ∧
    c.writeRam a v = { c with mbc := .mbc3 { r with live := r.live.write r.select v } } := by
  have hbank : decide (r.select.toNat ≤ 3) = false := by
    simp only [selectsRtc, Bool.and_eq_true, decide_eq_true_eq] at hsel
    exact decide_eq_false (by omega)
  rw [readRam_mbc3 hc, writeRam_mbc3 hc, hbank, he, hrtc, hsel]
  exact ⟨rfl, rfl⟩

/-- Behind the closed gate, without a clock and at any other select value the window is open bus (R180). -/
theorem mbc3_openBus (hsel : 4 ≤ r.select.toNat)
    (hno : r.ramEnable = false ∨ r.hasRtc = false ∨ r.select.toNat < 8 ∨ 12 < r.select.toNat) (v : Byte) :
    c.readRam a = 0xFF#8 ∧ c.writeRam a v = c := by
  have hbank : decide (r.select.toNat ≤ 3) = false := decide_eq_false (by omega)
  have hclock : (r.ramEnable && selectsRtc r.select && r.hasRtc) = false := by
    obtain he | hr | hlo | hhi := hno
    · rw [he]; rfl
    · rw [hr, Bool.and_false]
    · rw [selectsRtc, decide_eq_false (by omega), Bool.false_and, Bool.and_false, Bool.false_and]
    · rw [selectsRtc, decide_eq_false (p := r.select.toNat ≤ 12) (by omega), Bool.and_false, Bool.and_false,
        Bool.false_and]
  rw [readRam_mbc3 hc, writeRam_mbc3 hc, hbank, Bool.and_false, hclock]
  exact ⟨rfl, rfl⟩

end Mbc3

/-- Settles O51: the control writes by range, then the window by its select value. -/
theorem mbc3Cartridge : Obligations.Mbc3Cartridge := by
  intro c r a v hb hc
  have hcontrol (h : a.toNat < 0x8000) : c.write a v = { c with mbc := .mbc3 (r.control a v) } := by
    rw [write_control h, Cart.writeControl, hc]
  refine ⟨fun h => ?_, fun h h' => ?_, fun h h' => ?_, fun h h' => ?_, fun h => ?_, fun h h' => ?_, fun h h' => ?_⟩
  · rw [hcontrol (by omega), Mbc3Regs.control, if_pos h, enablesRam_eq]
  · rw [hcontrol (by omega), Mbc3Regs.control, if_neg (by omega), if_pos h', zeroToOne_setWidth]
    rfl
  · rw [hcontrol (by omega), Mbc3Regs.control, if_neg (by omega), if_neg (by omega), if_pos h']
  · rw [hcontrol h', Mbc3Regs.control, if_neg (by omega), if_neg (by omega), if_neg (by omega)]
    split <;> rfl
  · rw [read_lowRom hb h, Cart.lowRomBank, hc]
  · rw [read_highRom hb h h', Cart.highRomBank, hc]
  · rw [read_cartRam h, write_cartRam h]
    refine ⟨fun hsel => mbc3_ramBank hc hb hsel v, fun he hrtc => ?_, fun hsel hno => mbc3_openBus hc hsel hno v⟩
    have hclock := mbc3_clock (a := a) hc he hrtc (v := v)
    have h6 : v.setWidth 6 = BitVec.ofNat 6 (v.toNat % 64) := setWidth_eq_ofNat_mod v rfl
    have h5 : v.setWidth 5 = BitVec.ofNat 5 (v.toNat % 32) := setWidth_eq_ofNat_mod v rfl
    refine ⟨fun hsel => ?_, fun hsel => ?_, fun hsel => ?_, fun hsel => ?_, fun hsel => ?_⟩ <;>
      obtain ⟨hr, hw⟩ := hclock (by rw [hsel]; rfl) <;>
      rw [hr, hw, hsel, Rtc.read, Rtc.write]
    · rw [BitVec.ofNat_toNat, ← h6]
      exact ⟨rfl, rfl⟩
    · rw [BitVec.ofNat_toNat, ← h6]
      exact ⟨rfl, rfl⟩
    · rw [BitVec.ofNat_toNat, ← h5]
      exact ⟨rfl, rfl⟩
    · exact ⟨rfl, rfl⟩
    · exact ⟨rfl, rfl⟩

/-! ### No-MBC and MBC5 (R155–R157, R190–R195) -/

theorem noMbcCartridge (c : Cart) (a : Word) (v : Byte) (hb : bankCounts c) (hc : c.mbc = .noMbc) :
    (a.toNat < 0x4000 → c.read a = romAt c 0 a.toNat ∧ c.write a v = c) ∧
    (0x4000 ≤ a.toNat → a.toNat < 0x8000 → c.read a = romAt c 1 (a.toNat - 0x4000) ∧ c.write a v = c) ∧
    (0xA000 ≤ a.toNat → a.toNat < 0xC000 →
      c.read a = ramAt c true 0 (a.toNat - 0xA000) ∧ c.write a v = ramPut c true 0 (a.toNat - 0xA000) v) := by
  have hcontrol (h : a.toNat < 0x8000) : c.write a v = c := by rw [write_control h, Cart.writeControl, hc]
  refine ⟨fun h => ⟨?_, hcontrol (by omega)⟩, fun h h' => ⟨?_, hcontrol h'⟩, fun h h' => ⟨?_, ?_⟩⟩
  · rw [read_lowRom hb h, Cart.lowRomBank, hc]
  · rw [read_highRom hb h h', Cart.highRomBank, hc]
  · rw [read_cartRam h, Cart.readRam, hc]
    exact ramRead_eq_ramAt hb true 0 _
  · rw [write_cartRam h, Cart.writeRam, hc]
    exact ramWrite_eq_ramPut hb true 0 _ v

/-- The low byte of MBC5's bank register is replaced (R191). -/
theorem mbc5_romBank_low (b : BitVec 9) (v : Byte) :
    b.extractLsb' 8 1 ++ v = BitVec.ofNat 9 (b.toNat / 256 * 256 + v.toNat) := by
  have hb := b.isLt
  have hv := v.isLt
  apply BitVec.eq_of_toNat_eq
  rw [BitVec.toNat_append, ← Nat.shiftLeft_add_eq_or_of_lt v.isLt, Nat.shiftLeft_eq, BitVec.extractLsb'_toNat,
    Nat.shiftRight_eq_div_pow, BitVec.toNat_ofNat]
  omega

/-- Bit 8 of MBC5's bank register is replaced (R192). -/
theorem mbc5_romBank_high (b : BitVec 9) (v : Byte) :
    v.extractLsb' 0 1 ++ b.extractLsb' 0 8 = BitVec.ofNat 9 (v.toNat % 2 * 256 + b.toNat % 256) := by
  apply BitVec.eq_of_toNat_eq
  rw [BitVec.toNat_append, ← Nat.shiftLeft_add_eq_or_of_lt (BitVec.isLt _), Nat.shiftLeft_eq, BitVec.extractLsb'_toNat,
    BitVec.extractLsb'_toNat, Nat.shiftRight_zero, Nat.shiftRight_zero, BitVec.toNat_ofNat]
  omega

/-- MBC5's RAM-bank write, with the rumble bit on a cartridge that has the motor (R193). -/
theorem mbc5_ramBank_control (r : Mbc5Regs) (v : Byte) :
    (if r.hasRumble then { r with rumble := v.getLsbD 3, ramBank := (v &&& 0x07#8).setWidth 4 }
      else { r with ramBank := v.setWidth 4 }) =
    { r with rumble := if r.hasRumble then decide (v.toNat / 8 % 2 = 1) else r.rumble
             ramBank := BitVec.ofNat 4 (if r.hasRumble then v.toNat % 8 else v.toNat % 16) } := by
  cases r.hasRumble with
  | true =>
    have hlow : (v &&& 0x07#8).setWidth 4 = BitVec.ofNat 4 (v.toNat % 8) := by
      rw [show v &&& 0x07#8 = BitVec.ofNat 8 (v.toNat % 8) from and_mask_eq_ofNat_mod 3 v rfl rfl (by decide)]
      apply BitVec.eq_of_toNat_eq
      rw [BitVec.toNat_setWidth, BitVec.toNat_ofNat, BitVec.toNat_ofNat]
      omega
    have hbit : v.getLsbD 3 = decide (v.toNat / 8 % 2 = 1) := getLsbD_eq_decide v 3
    simp only [if_true, hlow, hbit]
  | false => simp only [Bool.false_eq_true, if_false, setWidth_eq_ofNat_mod (k := 4) (n := 16) v rfl]

/-- Settles O53: No-MBC by its ranges, and MBC5 by its control writes and its banks. -/
theorem noMbcAndMbc5Cartridges : Obligations.NoMbcAndMbc5Cartridges := by
  refine ⟨noMbcCartridge, fun c r a v hb hc => ?_⟩
  have hcontrol (h : a.toNat < 0x8000) : c.write a v = { c with mbc := .mbc5 (r.control a v) } := by
    rw [write_control h, Cart.writeControl, hc]
  refine ⟨fun h => ?_, fun h h' => ?_, fun h h' => ?_, fun h h' => ?_, fun h h' => ?_, fun h => ?_, fun h h' => ?_,
    fun h h' => ?_⟩
  · rw [hcontrol (by omega), Mbc5Regs.control, if_pos h, Bool.beq_eq_decide_eq]
  · rw [hcontrol (by omega), Mbc5Regs.control, if_neg (by omega), if_pos h', mbc5_romBank_low]
  · rw [hcontrol (by omega), Mbc5Regs.control, if_neg (by omega), if_neg (by omega), if_pos h', mbc5_romBank_high]
  · rw [hcontrol (by omega), Mbc5Regs.control, if_neg (by omega), if_neg (by omega), if_neg (by omega), if_pos h',
      mbc5_ramBank_control]
  · rw [hcontrol h', Mbc5Regs.control, if_neg (by omega), if_neg (by omega), if_neg (by omega), if_neg (by omega), ← hc]
  · rw [read_lowRom hb h, Cart.lowRomBank, hc]
  · rw [read_highRom hb h h', Cart.highRomBank, hc]
  · rw [read_cartRam h, write_cartRam h, Cart.readRam, Cart.writeRam, hc]
    exact ⟨ramRead_eq_ramAt hb _ _ _, ramWrite_eq_ramPut hb _ _ _ v⟩

end Sys2Proof
end

section
/-! PROOFS. The real-time clock (R182, R184, R185): a second within the day, the second at midnight, and a day of
them. -/

namespace Sys2Proof

open Sys2Proof.Machine Sys2Proof.Claims

/-! ### The second of the day -/

/-- The registers of the time hold a time of day. -/
structure ValidTime (r : Rtc) : Prop where
  s : r.s.toNat < 60
  m : r.m.toNat < 60
  hr : r.hr.toNat < 24

/-- The second of the day. -/
def clockSeconds (r : Rtc) : Nat := r.s.toNat + 60 * r.m.toNat + 3600 * r.hr.toNat

theorem time_eq_of_clockSeconds {r q : Rtc} (hr : ValidTime r) (hq : ValidTime q)
    (h : clockSeconds r = clockSeconds q) : r.s = q.s ∧ r.m = q.m ∧ r.hr = q.hr := by
  obtain ⟨hs, hm, -⟩ := hr
  obtain ⟨hs', hm', -⟩ := hq
  unfold clockSeconds at h
  exact ⟨BitVec.eq_of_toNat_eq (by omega), BitVec.eq_of_toNat_eq (by omega), BitVec.eq_of_toNat_eq (by omega)⟩

/-- A register that has not reached its end counts on. -/
theorem toNat_add_one {w : Nat} {b : BitVec w} (h : b.toNat + 1 < 2 ^ w) (hw : 1 < 2 ^ w) :
    (b + 1#w).toNat = b.toNat + 1 := by
  rw [BitVec.toNat_add, BitVec.toNat_ofNat, Nat.mod_eq_of_lt hw, Nat.mod_eq_of_lt h]

theorem add_one_eq_of_toNat {w : Nat} {b k : BitVec w} (h : b.toNat + 1 = k.toNat) (hw : 1 < 2 ^ w) : b + 1#w = k :=
  BitVec.eq_of_toNat_eq ((toNat_add_one (h ▸ k.isLt) hw).trans h)

/-- `q` is `n` seconds after `r` on the same day. -/
structure SameDayAfter (n : Nat) (r q : Rtc) : Prop where
  valid : ValidTime q
  seconds : clockSeconds q = clockSeconds r + n
  dl : q.dl = r.dl
  dh : q.dh = r.dh

section Tick
variable {r : Rtc} (hv : ValidTime r) (hrun : r.dh.getLsbD 6 = false)
include hv hrun

/-- A second that does not end the day (R182). -/
theorem tick1_within (hlt : clockSeconds r < 86399) : SameDayAfter 1 r r.tick1 := by
  obtain ⟨hs, hm, hh⟩ := hv
  have hs1 : (r.s + 1).toNat = r.s.toNat + 1 := toNat_add_one (by omega) (by decide)
  have hm1 : (r.m + 1).toNat = r.m.toNat + 1 := toNat_add_one (by omega) (by decide)
  have hh1 : (r.hr + 1).toNat = r.hr.toNat + 1 := toNat_add_one (by omega) (by decide)
  have hs60 : r.s + 1 = 60 ↔ r.s.toNat + 1 = 60 := by rw [← BitVec.toNat_inj, hs1]; rfl
  have hm60 : r.m + 1 = 60 ↔ r.m.toNat + 1 = 60 := by rw [← BitVec.toNat_inj, hm1]; rfl
  have hh24 : r.hr + 1 = 24 ↔ r.hr.toNat + 1 = 24 := by rw [← BitVec.toNat_inj, hh1]; rfl
  have h0 : (0 : BitVec 6).toNat = 0 := rfl
  unfold clockSeconds at hlt
  unfold Rtc.tick1
  rw [hrun, if_neg Bool.false_ne_true]
  simp only [ne_eq, hs60, hm60, hh24]
  split
  · refine ⟨⟨?_, hm, hh⟩, ?_, rfl, rfl⟩ <;> simp only [clockSeconds, hs1] <;> omega
  split
  · refine ⟨⟨?_, ?_, hh⟩, ?_, rfl, rfl⟩ <;> simp only [clockSeconds, hm1, h0] <;> omega
  split
  · refine ⟨⟨?_, ?_, ?_⟩, ?_, rfl, rfl⟩ <;> simp only [clockSeconds, hh1, h0] <;> omega
  · omega

/-- The registers after the last second of a day (R182). -/
def nextDay (r : Rtc) : Rtc :=
  let day := ((r.dh.extractLsb' 0 1) ++ r.dl).toNat + 1
  let carry := if day = 512 then 0x80#8 else r.dh &&& 0x80#8
  let day' := if day = 512 then 0 else day
  { s := 0, m := 0, hr := 0, dl := BitVec.ofNat 8 day',
    dh := carry ||| (r.dh &&& 0x7E#8) ||| BitVec.ofNat 8 (day' / 256) }

theorem tick1_midnight (hlast : clockSeconds r = 86399) : r.tick1 = nextDay r := by
  obtain ⟨hs, hm, hh⟩ := hv
  unfold clockSeconds at hlast
  have hs60 : r.s + 1 = 60 := add_one_eq_of_toNat (by show _ = 60; omega) (by decide)
  have hm60 : r.m + 1 = 60 := add_one_eq_of_toNat (by show _ = 60; omega) (by decide)
  have hh24 : r.hr + 1 = 24 := add_one_eq_of_toNat (by show _ = 24; omega) (by decide)
  unfold Rtc.tick1
  rw [hrun, if_neg Bool.false_ne_true]
  simp only [ne_eq, hs60, hm60, hh24, not_true_eq_false, if_false]
  rfl

end Tick

/-- `n` seconds that stay within the day. -/
theorem iterate_tick1_within {r : Rtc} (hv : ValidTime r) (hrun : r.dh.getLsbD 6 = false) {n : Nat}
    (hlt : clockSeconds r + n ≤ 86399) : SameDayAfter n r (iterate Rtc.tick1 n r) := by
  induction n generalizing r with
  | zero => exact ⟨hv, rfl, rfl, rfl⟩
  | succ n ih =>
    obtain ⟨hv1, hs1, hdl1, hdh1⟩ := tick1_within hv hrun (by omega)
    obtain ⟨hv2, hs2, hdl2, hdh2⟩ := ih hv1 (hdh1 ▸ hrun) (by omega)
    exact ⟨hv2, by rw [iterate_succ]; omega, hdl2.trans hdl1, hdh2.trans hdh1⟩

/-! ### The day counter (R69, R185) -/

theorem dayBits_toNat (r : Rtc) : ((r.dh.extractLsb' 0 1) ++ r.dl).toNat = day r := by
  have hbit : (r.dh.extractLsb' 0 1).toNat = if r.dh.getLsbD 0 then 1 else 0 := by
    rw [getLsbD_eq_decide, BitVec.extractLsb'_toNat, Nat.shiftRight_zero]
    simp only [decide_eq_true_eq]
    split <;> omega
  rw [BitVec.toNat_append, ← Nat.shiftLeft_add_eq_or_of_lt r.dl.isLt, Nat.shiftLeft_eq, hbit, Nat.mul_comm]
  rfl

theorem day_lt (r : Rtc) : day r < 512 := by
  have := r.dl.isLt
  unfold day
  split <;> omega

theorem day_eq_of_parts {q : Rtc} {d : Nat} (hd : d < 512) (hdl : q.dl = BitVec.ofNat 8 d)
    (hdh : q.dh.getLsbD 0 = decide (256 ≤ d)) : day q = d := by
  unfold day
  rw [hdl, hdh, BitVec.toNat_ofNat]
  simp only [decide_eq_true_eq]
  split <;> omega

/-- The day counter's bit 8 is bit 0 of its register, whose other bits it leaves. -/
theorem dayHigh_bits {d : Nat} (hd : d < 512) :
    (BitVec.ofNat 8 (d / 256)).getLsbD 0 = decide (256 ≤ d) ∧ (BitVec.ofNat 8 (d / 256)).getLsbD 6 = false ∧
    (BitVec.ofNat 8 (d / 256)).getLsbD 7 = false := by
  by_cases h : 256 ≤ d
  · rw [show d / 256 = 1 by omega, decide_eq_true h]
    decide
  · rw [show d / 256 = 0 by omega, decide_eq_false h]
    decide

/-- Midnight is one more day, and day 511 sets the carry flag and wraps (R185). -/
theorem nextDay_day (r : Rtc) : day (nextDay r) = (day r + 1) % 512 ∧ (nextDay r).dh.getLsbD 6 = r.dh.getLsbD 6 ∧
    (nextDay r).dh.getLsbD 7 = (r.dh.getLsbD 7 || decide (day r = 511)) := by
  have hlt := day_lt r
  by_cases hwrap : day r + 1 = 512
  · have hdh : (nextDay r).dh = 0x80#8 ||| (r.dh &&& 0x7E#8) ||| 0x00#8 := by
      simp only [nextDay, dayBits_toNat, hwrap, if_true]
    rw [hwrap, decide_eq_true (show day r = 511 by omega), hdh]
    refine ⟨day_eq_of_parts (by decide) ?_ (by rw [hdh]; simp), by simp, by simp⟩
    simp only [nextDay, dayBits_toNat, hwrap, if_true]
  · have hd : day r + 1 < 512 := by omega
    have hdh : (nextDay r).dh = r.dh &&& 0x80#8 ||| (r.dh &&& 0x7E#8) ||| BitVec.ofNat 8 ((day r + 1) / 256) := by
      simp only [nextDay, dayBits_toNat, hwrap, if_false]
    obtain ⟨h0, h6, h7⟩ := dayHigh_bits hd
    rw [Nat.mod_eq_of_lt hd, decide_eq_false (show day r ≠ 511 by omega)]
    refine ⟨day_eq_of_parts hd ?_ ?_, ?_, ?_⟩
    · simp only [nextDay, dayBits_toNat, hwrap, if_false]
    · rw [hdh, BitVec.getLsbD_or, h0]
      simp
    · rw [hdh, BitVec.getLsbD_or, h6]
      simp
    · rw [hdh, BitVec.getLsbD_or, h7]
      simp

theorem validTime_nextDay (r : Rtc) : ValidTime (nextDay r) :=
  ⟨show (0 : BitVec 6).toNat < 60 by decide, show (0 : BitVec 6).toNat < 60 by decide,
    show (0 : BitVec 5).toNat < 24 by decide⟩

/-- The time of day `r` again, a day later. -/
theorem iterate_tick1_day {r : Rtc} (hv : ValidTime r) (hrun : r.dh.getLsbD 6 = false) :
    ∃ p : Rtc, p.dl = r.dl ∧ p.dh = r.dh ∧
      SameDayAfter (clockSeconds r) (nextDay p) (iterate Rtc.tick1 86400 r) := by
  have hlast : clockSeconds r ≤ 86399 := by
    obtain ⟨hs, hm, hh⟩ := hv
    unfold clockSeconds
    omega
  obtain ⟨hv1, hs1, hdl1, hdh1⟩ := iterate_tick1_within hv hrun (n := 86399 - clockSeconds r) (by omega)
  have hnight := tick1_midnight hv1 (hdh1 ▸ hrun) (hs1.trans (by omega))
  have hrun2 := (nextDay_day (iterate Rtc.tick1 (86399 - clockSeconds r) r)).2.1.trans (hdh1 ▸ hrun)
  have hsplit : 86400 = (86399 - clockSeconds r) + (clockSeconds r + 1) := by omega
  refine ⟨_, hdl1, hdh1, ?_⟩
  rw [hsplit, iterate_add, iterate_succ, hnight]
  exact iterate_tick1_within (validTime_nextDay _) hrun2 ((Nat.zero_add _).trans_le hlast)

/-- A halted clock stands still (R182). -/
theorem iterate_tick1_halted {r : Rtc} (h : r.dh.getLsbD 6 = true) (n : Nat) : iterate Rtc.tick1 n r = r := by
  have hstep : r.tick1 = r := if_pos h
  induction n with
  | zero => rfl
  | succ n ih => rw [iterate_succ, hstep, ih]

/-- Settles O52: up to midnight, over it into the next day, and on to the same second. -/
theorem clockAdvancesOneDay : Obligations.ClockAdvancesOneDay := by
  refine ⟨fun c r hc hrtc hrun hs hm hh => ?_, fun c r k hc hhalt => ?_⟩
  · have hv : ValidTime r.live := ⟨hs, hm, hh⟩
    obtain ⟨p, hdl, hdh, hvq, hsq, hdlq, hdhq⟩ := iterate_tick1_day hv hrun
    have hday : day p = day r.live := by rw [day, day, hdl, hdh]
    obtain ⟨hd, h6, h7⟩ := nextDay_day p
    obtain ⟨hs', hm', hh'⟩ := time_eq_of_clockSeconds hvq hv (hsq.trans (Nat.zero_add _))
    refine ⟨iterate Rtc.tick1 86400 r.live, ?_, hs', hm', hh', ?_, ?_, ?_⟩
    · rw [Cart.rtcAdvance, hc]
      exact if_pos hrtc
    · rw [← hday, ← hd, day, day, hdlq, hdhq]
    · rw [hdhq, h6, hdh, hrun]
    · rw [hdhq, h7, hdh, hday]
  · rw [Cart.rtcAdvance, hc]
    simp only [iterate_tick1_halted hhalt, ← hc, ite_self]

end Sys2Proof
end

section
/-! PROOFS. The OAM DMA engine (R495–R497): where a transfer stands after each of its steps. -/

namespace Sys2Proof

open Sys2Proof.Machine Sys2Proof.Claims

theorem iterate_succ' {α : Type} (f : α → α) (n : Nat) (x : α) : iterate f (n + 1) x = f (iterate f n x) := by
  rw [iterate_add]
  rfl

/-- The engine `n` steps after its start: eight steps of delay, then a byte in the first of every four steps (R496). -/
def dmaAfter (d : Dma) (n : Nat) : Dma :=
  { d with active := decide (n < 648), delay := 8 - n, count := (n - 5) / 4, sub := (n - 8) % 4 }

theorem dmaAfter_start (v : Byte) : dmaAfter (Dma.start v) 0 = Dma.start v := rfl

section Advance
variable {d : Dma} {n : Nat} (hn : 8 ≤ n) (hlt : n < 648)
include hn hlt

/-- A step that copies no byte. -/
theorem advance_dmaAfter_wait (hsub : (n - 8) % 4 ≠ 0) : (dmaAfter d n).advance = dmaAfter d (n + 1) := by
  have hs : ((n - 8) % 4 + 1) % 4 = (n + 1 - 8) % 4 := by omega
  have hc : (n - 5) / 4 = (n + 1 - 5) / 4 := by omega
  have ha : (!((n - 5) / 4 == 160 && (n + 1 - 8) % 4 == 0)) = decide (n + 1 < 648) := by
    rw [Bool.eq_iff_iff]
    simp
    omega
  have hd : 8 - n = 8 - (n + 1) := by omega
  simp only [Dma.advance, dmaAfter, Config.dmaLength, hs, ha, ← hc, ← hd]

/-- A step that copies a byte. -/
theorem advance_dmaAfter_copy (hsub : (n - 8) % 4 = 0) :
    Dma.advance { dmaAfter d n with count := (n - 5) / 4 + 1 } = dmaAfter d (n + 1) := by
  have hs : ((n - 8) % 4 + 1) % 4 = (n + 1 - 8) % 4 := by omega
  have hc : (n - 5) / 4 + 1 = (n + 1 - 5) / 4 := by omega
  have ha : (!((n + 1 - 5) / 4 == 160 && (n + 1 - 8) % 4 == 0)) = decide (n + 1 < 648) := by
    rw [Bool.eq_iff_iff]
    simp
    omega
  have hd : 8 - n = 8 - (n + 1) := by omega
  simp only [Dma.advance, dmaAfter, Config.dmaLength, hs, hc, ha, ← hd]

end Advance

/-- State `t`, `n` steps after the engine `d` was started in state `s`: the bytes copied so far are in OAM. -/
structure CopiedAfter (s : State) (d : Dma) (n : Nat) (t : State) : Prop where
  wf : Memory.wf t.ppu.oam = true
  source : ∀ a, t.dmaRead a = s.dmaRead a
  dma : t.dma = dmaAfter d n
  oam : ∀ k, Memory.read t.ppu.oam k =
    if k < (n - 5) / 4 then s.dmaRead (d.src + BitVec.ofNat 16 k) else Memory.read s.ppu.oam k

/-- One step of a transfer. -/
theorem CopiedAfter.step {s t : State} {d : Dma} {n : Nat} (h : CopiedAfter s d n t) (hlt : n < 648) :
    CopiedAfter s d (n + 1) t.dmaStep := by
  obtain ⟨hwf, hsrc, hdma, hoam⟩ := h
  have hon : t.dma.active = true := by rw [hdma]; exact decide_eq_true hlt
  have hdelay : t.dma.delay = 8 - n := by rw [hdma]; rfl
  have hsub : t.dma.sub = (n - 8) % 4 := by rw [hdma]; rfl
  have hcount : t.dma.count = (n - 5) / 4 := by rw [hdma]; rfl
  refine dmaStep_cases (P := CopiedAfter s d (n + 1)) t (fun hoff => ?_) (fun _ hd => ?_) (fun _ hd h0 => ?_)
    fun _ hd h0 => ?_
  · exact absurd (hon.symm.trans hoff) (by decide)
  · have hwait : n < 8 := by omega
    refine ⟨hwf, hsrc, ?_, ?_⟩
    · dsimp only
      rw [hdma]
      simp only [dmaAfter, show 8 - n - 1 = 8 - (n + 1) by omega, show (n - 5) / 4 = (n + 1 - 5) / 4 by omega,
        show n - 8 = n + 1 - 8 by omega, hlt, show n + 1 < 648 by omega]
    · intro k
      rw [show (n + 1 - 5) / 4 = (n - 5) / 4 by omega]
      exact hoam k
  · have hcopy : (n + 1 - 5) / 4 = (n - 5) / 4 + 1 := by omega
    refine ⟨Memory.wf_write hwf _ _, hsrc, ?_, fun k => ?_⟩
    · rw [← advance_dmaAfter_copy (d := d) (by omega) hlt (by omega), ← hcount, ← hdma]
      rfl
    · show Memory.read (Memory.write t.ppu.oam t.dma.count (t.dmaRead (t.dma.src + BitVec.ofNat 16 t.dma.count))) k = _
      rw [Memory.read_write hwf, hcount, hcopy, hsrc, hoam, hdma]
      by_cases hk : k = (n - 5) / 4
      · rw [if_pos hk, if_pos (by omega), hk]
        rfl
      · rw [if_neg hk]
        simp only [show k < (n - 5) / 4 ↔ k < (n - 5) / 4 + 1 by omega]
  · refine ⟨hwf, hsrc, ?_, fun k => ?_⟩
    · rw [← advance_dmaAfter_wait (d := d) (by omega) hlt (by omega), ← hdma]
    · rw [show (n + 1 - 5) / 4 = (n - 5) / 4 by omega]
      exact hoam k

theorem copiedAfter_iterate {s : State} (hs : s.memoriesWf = true) (v : Byte) (n : Nat) (hn : n ≤ 648) :
    CopiedAfter s (Dma.start v) n (iterate State.dmaStep n { s with dma := Dma.start v }) := by
  induction n with
  | zero =>
    obtain ⟨-, -, hppu, -, -⟩ := s.memoriesWf_iff.1 hs
    simp only [Ppu.memoriesWf, Bool.and_eq_true] at hppu
    exact ⟨hppu.1.1.1.2, fun _ => rfl, rfl, fun k => (if_neg (Nat.not_lt_zero k)).symm⟩
  | succ n ih =>
    rw [iterate_succ']
    exact (ih (by omega)).step (by omega)

/-- Settles O54: `CopiedAfter` says where the transfer stands after each of the 648 steps. -/
theorem dmaCopiesOam : Obligations.DmaCopiesOam := by
  intro s v hs start
  have hafter (n : Nat) (hn : n ≤ 648) := copiedAfter_iterate hs v n hn
  refine ⟨fun n hn => ?_, ?_, fun k hk => ?_, fun k hk => ?_, fun k hk => ?_⟩
  · rw [(hafter n hn.le).dma]
    exact decide_eq_true hn
  · rw [(hafter 648 le_rfl).dma]
    rfl
  · rw [(hafter (9 + 4 * k) (by omega)).oam, if_pos (by omega)]
  · rw [(hafter 648 le_rfl).oam, if_pos hk]
  · rw [(hafter 648 le_rfl).oam, if_neg (by omega)]

end Sys2Proof
end

section
/-! PROOFS. A line of the PPU, dot by dot (R460–R463, R490, R491): its timing, the requests and the OAM scan. -/

namespace Sys2Proof

open Sys2Proof.Machine Sys2Proof.Claims

/-! ### One dot of an LCD that is on -/

section Dot
variable (color : Bool) (p : Ppu)

theorem sameLine_dotDone : SameLine { p with dot := p.dot + 1 } (dotDone color p) := by
  refine SameLine.trans ?_ (sameLine_modeChange _)
  obtain ⟨hvram, hoam, hbg, hobj, hlcdc, hly, hdot, hstat, hfb⟩ := sameLine_modeDot color p
  exact ⟨hvram, hoam, hbg, hobj, hlcdc, hly, congrArg (· + 1) hdot, hstat, hfb⟩

/-- The mode after the work and the mode change of a dot. -/
theorem mode_dotDone : (dotDone color p).mode = { p.modeDot color with dot := p.dot + 1 }.modeChange.mode := by
  unfold dotDone
  rw [(sameLine_modeDot color p).dot]

theorem mode_dotDone_scan (h : p.mode = .oamScan) :
    (dotDone color p).mode = if p.dot + 1 = 80 then .drawing else .oamScan := by
  have hm : (p.modeDot color).mode = .oamScan := (mode_modeDot color p).trans h
  rw [mode_dotDone]
  refine modeChange_cases _ (P := fun q => q.mode = _) (fun _ hd => ?_) (fun hdraw _ => ?_) fun hno _ => ?_
  · exact (if_pos hd).symm
  · cases hm.symm.trans hdraw
  · exact hm.trans (if_neg (hno hm)).symm

theorem mode_dotDone_drawing (h : p.mode = .drawing) :
    (dotDone color p).mode = .drawing ∨ (dotDone color p).mode = .hblank := by
  have hm : (p.modeDot color).mode = .drawing := (mode_modeDot color p).trans h
  rw [mode_dotDone]
  exact modeChange_cases _ (P := fun q => q.mode = .drawing ∨ q.mode = .hblank) (fun _ _ => .inl rfl)
    (fun _ _ => .inr rfl) fun _ _ => .inl hm

theorem mode_dotDone_blank (hscan : p.mode ≠ .oamScan) (hdraw : p.mode ≠ .drawing) :
    (dotDone color p).mode = p.mode := by
  have hm : (p.modeDot color).mode = p.mode := mode_modeDot color p
  rw [mode_dotDone]
  exact modeChange_cases _ (P := fun q => q.mode = p.mode) (fun h _ => absurd (hm.symm.trans h) hscan)
    (fun h _ => absurd (hm.symm.trans h) hdraw) fun _ _ => hm

variable {p}

/-- A dot inside a line. -/
theorem ppuDot_within (hon : p.lcdc.getLsbD 7 = true) (hd : p.dot + 1 ≠ 456) :
    ppuDot color p = { dotDone color p with statLine := (dotDone color p).statCondition } := by
  have hkeep : (dotDone color p).lineEnd = (dotDone color p, false) := if_neg (by rwa [(sameLine_dotDone color p).dot])
  rw [ppuDot, step_on color p hon, hkeep]

/-- The last dot of a line. -/
theorem ppuDot_last (hon : p.lcdc.getLsbD 7 = true) (hd : p.dot + 1 = 456) :
    ppuDot color p = { { dotDone color p with dot := 0 }.nextLine.1 with
      statLine := { dotDone color p with dot := 0 }.nextLine.1.statCondition } := by
  have hend : (dotDone color p).lineEnd = { dotDone color p with dot := 0 }.nextLine :=
    if_pos (by rwa [(sameLine_dotDone color p).dot])
  rw [ppuDot, step_on color p hon, hend]

end Dot

/-! ### A line (R460–R462) -/

/-- `q` is a dot of the same line as `p`, with the LCD on. -/
structure OnLine (p : Ppu) (k : Nat) (q : Ppu) : Prop where
  lcdc : q.lcdc = p.lcdc
  oam : q.oam = p.oam
  ly : q.ly = p.ly
  dot : q.dot = k

section Line
variable {p : Ppu} (color : Bool) (hon : p.lcdc.getLsbD 7 = true) (h0 : p.dot = 0)
include hon h0

theorem onLine_iterate {k : Nat} (hk : k < 456) : OnLine p k (iterate (ppuDot color) k p) := by
  induction k with
  | zero => exact ⟨rfl, rfl, rfl, h0⟩
  | succ k ih =>
    obtain ⟨hlcdc, hoam, hly, hdot⟩ := ih (by omega)
    have hline := sameLine_dotDone color (iterate (ppuDot color) k p)
    rw [iterate_succ', ppuDot_within color (hlcdc ▸ hon) (by omega)]
    exact ⟨hline.lcdc.trans hlcdc, hline.oam.trans hoam, hline.ly.trans hly, hline.dot.trans (congrArg (· + 1) hdot)⟩

/-- The mode after a dot inside the line is the mode after its work. -/
theorem mode_iterate_succ {k : Nat} (hk : k + 1 < 456) :
    (iterate (ppuDot color) (k + 1) p).mode = (dotDone color (iterate (ppuDot color) k p)).mode := by
  obtain ⟨hlcdc, -, -, hdot⟩ := onLine_iterate color hon h0 (k := k) (by omega)
  rw [iterate_succ', ppuDot_within color (hlcdc ▸ hon) (by omega)]

theorem mode_iterate_scan (hm : p.mode = .oamScan) {k : Nat} (hk : k < 80) :
    (iterate (ppuDot color) k p).mode = .oamScan := by
  induction k with
  | zero => exact hm
  | succ k ih =>
    have hdot := (onLine_iterate color hon h0 (k := k) (by omega)).dot
    rw [mode_iterate_succ color hon h0 (by omega), mode_dotDone_scan color _ (ih (by omega)), if_neg (by omega)]

theorem mode_iterate_80 (hm : p.mode = .oamScan) : (iterate (ppuDot color) 80 p).mode = .drawing := by
  have hdot := (onLine_iterate color hon h0 (k := 79) (by decide)).dot
  rw [mode_iterate_succ color hon h0 (k := 79) (by decide),
    mode_dotDone_scan color _ (mode_iterate_scan color hon h0 hm (by decide)), if_pos (by rw [hdot])]

theorem mode_iterate_draw (hm : p.mode = .oamScan) {k : Nat} (h80 : 80 ≤ k) (hk : k < 456) :
    (iterate (ppuDot color) k p).mode = .drawing ∨ (iterate (ppuDot color) k p).mode = .hblank := by
  induction k, h80 using Nat.le_induction with
  | base => exact .inl (mode_iterate_80 color hon h0 hm)
  | succ k h80 ih =>
    rw [mode_iterate_succ color hon h0 hk]
    obtain hd | hb := ih (by omega)
    · exact mode_dotDone_drawing color _ hd
    · rw [mode_dotDone_blank color _ (by rw [hb]; decide) (by rw [hb]; decide)]
      exact .inr hb

theorem mode_iterate_vblank (hm : p.mode = .vblank) {k : Nat} (hk : k < 456) :
    (iterate (ppuDot color) k p).mode = .vblank := by
  induction k with
  | zero => exact hm
  | succ k ih =>
    have hv := ih (by omega)
    rw [mode_iterate_succ color hon h0 hk, mode_dotDone_blank color _ (by rw [hv]; decide) (by rw [hv]; decide), hv]

omit h0 in
/-- What holds after `NextLine()` holds after the last dot of a line. -/
theorem lastDot_cases {P : Ppu → Prop} (hstat : ∀ q b, P q → P { q with statLine := b })
    (hnext : ∀ q : Ppu, q.ly = p.ly → q.dot = 0 → (p.mode = .vblank → q.mode = .vblank) → P q.nextLine.1)
    {r : Ppu} (hr : OnLine p 455 r) (hmode : p.mode = .vblank → r.mode = .vblank) : P (ppuDot color r) := by
  obtain ⟨hlcdc, -, hly, hdot⟩ := hr
  rw [ppuDot_last color (hlcdc ▸ hon) (by rw [hdot])]
  refine hstat _ _ (hnext _ ((sameLine_dotDone color r).ly.trans hly) rfl fun hm => ?_)
  have hv := hmode hm
  exact (mode_dotDone_blank color r (by rw [hv]; decide) (by rw [hv]; decide)).trans hv

/-- What holds after `NextLine()` holds after a line's 456 dots. -/
theorem line_cases {P : Ppu → Prop} (hstat : ∀ q b, P q → P { q with statLine := b })
    (hnext : ∀ q : Ppu, q.ly = p.ly → q.dot = 0 → (p.mode = .vblank → q.mode = .vblank) → P q.nextLine.1) :
    P (iterate (ppuDot color) 456 p) := by
  rw [show 456 = 455 + 1 from rfl, iterate_succ']
  exact lastDot_cases color hon hstat hnext (onLine_iterate color hon h0 (by decide))
    fun hm => mode_iterate_vblank color hon h0 hm (by decide)

end Line

/-- Settles O55: `onLine_iterate` through the line, and `NextLine()` at its end. -/
theorem lineTiming : Obligations.LineTiming := by
  intro color p hon h0 next
  refine ⟨fun k hk => ?_, ?_, ?_, fun hm => ⟨fun k hk => mode_iterate_scan color hon h0 hm hk,
    mode_iterate_80 color hon h0 hm, fun k h80 hk => mode_iterate_draw color hon h0 hm h80 hk⟩,
    fun hm _ k hk => mode_iterate_vblank color hon h0 hm hk, fun hlt => ?_, fun heq => ?_, fun hm hgt => ?_⟩
  · obtain ⟨-, -, hly, hdot⟩ := onLine_iterate color hon h0 hk
    exact ⟨hdot, hly⟩
  · exact line_cases color hon h0 (P := fun q => q.dot = 0) (fun _ _ => id) fun q _ hd _ =>
      nextLine_cases q (P := fun r => r.dot = 0) (fun _ => hd) (fun _ => hd) fun _ => hd
  · refine line_cases color hon h0 (P := fun q => q.ly = next) (fun _ _ => id) fun q hly _ _ => ?_
    have hnext : nextLy q.ly = next := congrArg nextLy hly
    exact nextLine_cases q (P := fun r => r.ly = next) (fun _ => hnext) (fun _ => hnext) fun _ => hnext
  · refine line_cases color hon h0 (P := fun q => q.mode = .oamScan) (fun _ _ => id) fun q hly _ _ => ?_
    have hnext : nextLy q.ly = next := congrArg nextLy hly
    exact nextLine_cases q (P := fun r => r.mode = .oamScan) (fun h => absurd (hnext ▸ h) (by omega)) (fun _ => rfl)
      fun h => absurd (hnext ▸ h) (by omega)
  · refine line_cases color hon h0 (P := fun q => q.mode = .vblank) (fun _ _ => id) fun q hly _ _ => ?_
    have hnext : nextLy q.ly = next := congrArg nextLy hly
    exact nextLine_cases q (P := fun r => r.mode = .vblank) (fun _ => rfl) (fun h => absurd (hnext ▸ h) (by omega))
      fun h => absurd (hnext ▸ h) (by omega)
  · refine line_cases color hon h0 (P := fun q => q.mode = .vblank) (fun _ _ => id) fun q hly _ hv => ?_
    have hnext : nextLy q.ly = next := congrArg nextLy hly
    exact nextLine_cases q (P := fun r => r.mode = .vblank) (fun _ => rfl) (fun h => absurd (hnext ▸ h) (by omega))
      fun _ => hv hm

/-! ### The requests (R490, R491) -/

theorem requestBits_getLsbD (vblank stat : Bool) : (requestBits vblank stat).getLsbD 0 = vblank ∧
    (requestBits vblank stat).getLsbD 1 = stat ∧ ∀ k, 2 ≤ k → (requestBits vblank stat).getLsbD k = false := by
  have hhigh : (requestBits vblank stat).toNat < 2 ^ 2 := by
    revert vblank stat
    decide
  refine ⟨by revert vblank stat; decide, by revert vblank stat; decide, fun k hk => ?_⟩
  exact Nat.testBit_lt_two_pow (hhigh.trans_le (Nat.pow_le_pow_right (by decide) hk))

/-- Line 143 is the one before line 144 (R490). -/
theorem nextLy_eq_144 (ly : Byte) : (nextLy ly).toNat = 144 ↔ ly = 143#8 := by
  have hly := ly.isLt
  rw [← BitVec.toNat_inj]
  unfold nextLy
  split
  · next h => simp [h]
  · rw [BitVec.toNat_add]
    show (ly.toNat + 1) % 256 = 144 ↔ ly.toNat = 143
    omega

theorem nextLine_vblank (p : Ppu) : p.nextLine.2 = decide (p.ly = 143#8) := by
  unfold Ppu.nextLine
  show (if (nextLy p.ly).toNat = 144 then _ else if (nextLy p.ly).toNat < 144 then _ else _ : Ppu × Bool).2 = _
  simp only [← nextLy_eq_144]
  split
  · next h => exact (decide_eq_true h).symm
  next h =>
    rw [decide_eq_false h]
    split <;> rfl

theorem lineEnd_vblank (p : Ppu) : p.lineEnd.2 = decide (p.dot = 456 ∧ p.ly = 143#8) := by
  unfold Ppu.lineEnd
  split
  · next h => exact (nextLine_vblank _).trans (decide_eq_decide.2 (and_iff_right h).symm)
  · next h => exact (decide_eq_false fun h' => h h'.1).symm

theorem lineEnd_statLine (p : Ppu) : p.lineEnd.1.statLine = p.statLine :=
  lineEnd_cases p (P := fun q => q.statLine = p.statLine)
    (fun _ => nextLine_cases _ (P := fun q => q.statLine = p.statLine) (fun _ => rfl) (fun _ => rfl) fun _ => rfl)
    fun _ => rfl

/-- Settles O56: the requests are the flags of `lineEnd` and of the STAT line. -/
theorem ppuRequests : Obligations.PpuRequests := by
  intro color p hon q condition
  have hstep := step_on color p hon
  have hline := sameLine_dotDone color p
  have hcond : condition = (dotDone color p).lineEnd.1.statCondition := by
    show (_ || _ || _ || _) = _
    rw [show q = _ from congrArg Prod.fst hstep]
    simp only [Ppu.statCondition, Bool.beq_eq_decide_eq]
  obtain ⟨hb0, hb1, hb2⟩ := requestBits_getLsbD (dotDone color p).lineEnd.2
    ((dotDone color p).lineEnd.1.statCondition && !(dotDone color p).lineEnd.1.statLine)
  rw [hcond, show q = _ from congrArg Prod.fst hstep, hstep]
  refine ⟨rfl, hb0.trans ?_, hb1.trans ?_, hb2⟩
  · rw [lineEnd_vblank, hline.dot, hline.ly, decide_eq_decide]
    exact and_congr_left' (Nat.succ_inj (a := p.dot) (b := 455))
  · rw [lineEnd_statLine, hline.statLine]

/-! ### The OAM scan (R463, R464) -/

/-- The first ten of the first `j` entries that cover the line. -/
def firstTen (p : Ppu) (j : Nat) : List ObjEntry := (((List.range j).filter (covers p)).take 10).map (entry p)

/-- The next entry is selected when it covers the line and fewer than ten are. -/
theorem firstTen_succ (p : Ppu) (j : Nat) : firstTen p (j + 1) =
    if (firstTen p j).length < 10 ∧ covers p j = true then firstTen p j ++ [entry p j] else firstTen p j := by
  have hlen : (firstTen p j).length = min 10 ((List.range j).filter (covers p)).length := by
    rw [firstTen, List.length_map, List.length_take]
  unfold firstTen at hlen ⊢
  rw [hlen, List.range_succ, List.filter_append, List.take_append, List.map_append]
  cases hc : covers p j with
  | false => simp [hc]
  | true =>
    by_cases h10 : ((List.range j).filter (covers p)).length < 10
    · rw [if_pos ⟨by omega, rfl⟩]
      have h1 : 1 ≤ 10 - ((List.range j).filter (covers p)).length := by omega
      simp [hc, List.take_of_length_le (l := [j]) h1]
    · rw [if_neg fun h => by omega]
      simp [show 10 - ((List.range j).filter (covers p)).length = 0 by omega]

/-- Before OAM entry `j` of the scan of `p`'s line. -/
structure Scanned (p : Ppu) (j : Nat) (q : Ppu) : Prop where
  scanIndex : q.scanIndex = j
  scanMicro : q.scanMicro = .readY
  selected : q.selected = firstTen p j

/-- What `StartMode3()` and the STAT line leave of the scan. -/
theorem ppuDot_scan (color : Bool) {p : Ppu} (hon : p.lcdc.getLsbD 7 = true) (hd : p.dot + 1 ≠ 456)
    (hm : p.mode = .oamScan) (hly : p.ly.toNat < 144) :
    (ppuDot color p).scanIndex = p.oamScanDot.scanIndex ∧ (ppuDot color p).scanMicro = p.oamScanDot.scanMicro ∧
    (ppuDot color p).scanY = p.oamScanDot.scanY ∧ (ppuDot color p).selected = p.oamScanDot.selected := by
  have hwork : p.modeDot color = p.oamScanDot := by rw [Ppu.modeDot, if_pos hly, hm]
  rw [ppuDot_within color hon hd, dotDone, hwork]
  exact modeChange_cases _ (P := fun q => q.scanIndex = p.oamScanDot.scanIndex ∧
      q.scanMicro = p.oamScanDot.scanMicro ∧ q.scanY = p.oamScanDot.scanY ∧ q.selected = p.oamScanDot.selected)
    (fun _ _ => ⟨rfl, rfl, rfl, rfl⟩) (fun _ _ => ⟨rfl, rfl, rfl, rfl⟩) fun _ _ => ⟨rfl, rfl, rfl, rfl⟩

section Scan
variable {p : Ppu} (color : Bool) (hon : p.lcdc.getLsbD 7 = true) (h0 : p.dot = 0) (hly : p.ly.toNat < 144)
  (hm : p.mode = .oamScan)
include hon h0 hly hm

/-- The two dots of an OAM entry: its Y is read, then compared (R463). -/
theorem Scanned.entry {j : Nat} (hj : j < 40) (h : Scanned p j (iterate (ppuDot color) (2 * j) p)) :
    Scanned p (j + 1) (iterate (ppuDot color) (2 * (j + 1)) p) := by
  have hline0 := onLine_iterate color hon h0 (k := 2 * j) (by omega)
  have hline1 := onLine_iterate color hon h0 (k := 2 * j + 1) (by omega)
  have hm0 := mode_iterate_scan color hon h0 hm (k := 2 * j) (by omega)
  have hm1 := mode_iterate_scan color hon h0 hm (k := 2 * j + 1) (by omega)
  have hscan0 := ppuDot_scan color (hline0.lcdc ▸ hon) (by rw [hline0.dot]; omega) hm0 (hline0.ly ▸ hly)
  have hscan1 := ppuDot_scan color (hline1.lcdc ▸ hon) (by rw [hline1.dot]; omega) hm1 (hline1.ly ▸ hly)
  rw [← iterate_succ' (ppuDot color) (2 * j)] at hscan0
  rw [← iterate_succ' (ppuDot color) (2 * j + 1)] at hscan1
  show Scanned p (j + 1) (iterate (ppuDot color) (2 * j + 1 + 1) p)
  generalize iterate (ppuDot color) (2 * j) p = q at *
  generalize iterate (ppuDot color) (2 * j + 1) p = r at *
  generalize iterate (ppuDot color) (2 * j + 1 + 1) p = t at *
  obtain ⟨hidx, hmicro, hsel⟩ := h
  simp only [Ppu.oamScanDot, hmicro] at hscan0
  obtain ⟨hidx0, hmicro0, hy0, hsel0⟩ := hscan0
  simp only [Ppu.oamScanDot, hmicro0] at hscan1
  obtain ⟨hidx1, hmicro1, -, hsel1⟩ := hscan1
  have hhit : r.scanHit = covers p j := by
    simp only [Ppu.scanHit, covers, Ppu.objHeight, Ppu.lcdcBit, Ppu.oamByte, hy0, hidx, hline0.oam, hline1.ly,
      hline1.lcdc]
  refine ⟨by rw [hidx1, hidx0, hidx], hmicro1, ?_⟩
  rw [hsel1, firstTen_succ, hsel0, hsel, hhit, hidx0, hidx, hy0, hidx]
  simp only [Ppu.oamByte, hline0.oam, hline1.oam, Bool.and_eq_true, decide_eq_true_eq]
  rfl

theorem scanned_iterate (hidx : p.scanIndex = 0) (hmicro : p.scanMicro = .readY) (hsel : p.selected = []) {j : Nat}
    (hj : j ≤ 40) : Scanned p j (iterate (ppuDot color) (2 * j) p) := by
  induction j with
  | zero => exact ⟨hidx, hmicro, hsel⟩
  | succ j ih => exact (ih (by omega)).entry color hon h0 hly hm (by omega)

end Scan

/-- Settles O57: by `scanned_iterate`, entry by entry. -/
theorem oamScanSelectsTen : Obligations.OamScanSelectsTen := fun color _ hon hly hm h0 hidx hmicro hsel =>
  (scanned_iterate color hon h0 hly hm hidx hmicro hsel (j := 40) le_rfl).selected

end Sys2Proof
end

section
/-! PROOFS. Pixel mixing (R54, R488, R489): the stored values, and the object's or the background's colour. -/

namespace Sys2Proof

open Sys2Proof.Machine Sys2Proof.Claims

/-! ### The stored values (R54, R58) -/

theorem shade_eq (pal : Byte) (c : BitVec 2) : shade pal c = BitVec.ofNat 16 (pal.toNat / 4 ^ c.toNat % 4) := by
  have hpow : 2 ^ (2 * c.toNat) = 4 ^ c.toNat := Nat.pow_mul 2 2 c.toNat
  have hlow : (pal >>> (2 * c.toNat)) &&& 3#8 = BitVec.ofNat 8 ((pal >>> (2 * c.toNat)).toNat % 4) :=
    and_mask_eq_ofNat_mod 2 _ rfl rfl (by decide)
  apply BitVec.eq_of_toNat_eq
  rw [shade, hlow, BitVec.toNat_setWidth, BitVec.toNat_ofNat, BitVec.toNat_ofNat, BitVec.toNat_ushiftRight,
    Nat.shiftRight_eq_div_pow, hpow]
  omega

theorem mkWord_toNat (hi lo : Byte) : (mkWord hi lo).toNat = lo.toNat + 256 * hi.toNat := by
  rw [mkWord, BitVec.toNat_append, ← Nat.shiftLeft_add_eq_or_of_lt lo.isLt, Nat.shiftLeft_eq]
  omega

theorem paletteColor_eq (ram : Memory) (k : BitVec 3) (c : BitVec 2) : paletteColor ram k c =
    BitVec.ofNat 16 (((Memory.read ram (8 * k.toNat + 2 * c.toNat)).toNat +
      256 * (Memory.read ram (8 * k.toNat + 2 * c.toNat + 1)).toNat) % 0x8000) := by
  rw [paletteColor, ← mkWord_toNat]
  exact and_mask_eq_ofNat_mod 15 _ rfl rfl (by decide)

/-! ### Which pixel is shown (R488, R489) -/

section Mixing
variable {p : Ppu} {b x : Pixel}

/-- DMG mode: an opaque object that priority lets through. -/
theorem mixDmg_object (hx : x.color ≠ 0#2) (hobj : p.lcdc.getLsbD 1 = true)
    (hprio : p.lcdc.getLsbD 0 = false ∨ x.bgPriority = false ∨ b.color = 0#2) :
    p.mixDmg b (some x) = shade (if x.palette = 1#3 then p.obp1 else p.obp0) x.color := by
  have hshown : (x.bgPriority && (if p.lcdcBit 0 then b.color else 0#2) != 0#2) = false := by
    obtain h | h | h := hprio
    · simp [show p.lcdcBit 0 = false from h]
    · simp [h]
    · simp [h]
  have hbit : p.lcdcBit 1 = true := hobj
  simp only [Ppu.mixDmg, hshown, hbit, bne_iff_ne.2 hx, Bool.not_false, Bool.and_true, if_true]

/-- DMG mode: the background, when there is no such object. -/
theorem mixDmg_background {o : Option Pixel} (h : o = none ∨ p.lcdc.getLsbD 1 = false ∨ ∃ x, o = some x ∧
      (x.color = 0#2 ∨ (x.bgPriority = true ∧ p.lcdc.getLsbD 0 = true ∧ b.color ≠ 0#2))) :
    p.mixDmg b o = if p.lcdc.getLsbD 0 then shade p.bgp b.color else 0#16 := by
  have hbg : (if p.lcdcBit 0 then shade p.bgp (if p.lcdcBit 0 then b.color else 0#2) else 0#16) =
      if p.lcdc.getLsbD 0 then shade p.bgp b.color else 0#16 := by
    unfold Ppu.lcdcBit
    split <;> rfl
  cases o with
  | none => exact hbg
  | some x =>
    have hhidden : (x.color != 0#2 && p.lcdcBit 1 &&
        !(x.bgPriority && (if p.lcdcBit 0 then b.color else 0#2) != 0#2)) = false := by
      obtain h | h | ⟨y, hy, h | ⟨hp, h0, hb⟩⟩ := h
      · cases h
      · simp [show p.lcdcBit 1 = false from h]
      · cases hy; simp [h]
      · cases hy; simp [show p.lcdcBit 0 = true from h0, hp, hb]
    simp only [Ppu.mixDmg, hhidden, Bool.false_eq_true, if_false]
    exact hbg

/-- Colour mode: an opaque object that priority lets through. -/
theorem mixColor_object (hx : x.color ≠ 0#2) (hobj : p.lcdc.getLsbD 1 = true)
    (hprio : p.lcdc.getLsbD 0 = false ∨ b.color = 0#2 ∨ (b.bgPriority = false ∧ x.bgPriority = false)) :
    p.mixColor b (some x) = paletteColor p.objPalRam x.palette x.color := by
  have hshown : (!p.lcdcBit 0 || b.color == 0#2 || (!b.bgPriority && !x.bgPriority)) = true := by
    obtain h | h | ⟨hb, ho⟩ := hprio
    · simp [show p.lcdcBit 0 = false from h]
    · simp [h]
    · simp [hb, ho]
  have hbit : p.lcdcBit 1 = true := hobj
  simp only [Ppu.mixColor, hshown, hbit, bne_iff_ne.2 hx, Bool.and_true, if_true]

/-- Colour mode: the background, when there is no such object. -/
theorem mixColor_background {o : Option Pixel} (h : o = none ∨ p.lcdc.getLsbD 1 = false ∨ ∃ x, o = some x ∧
      (x.color = 0#2 ∨ (p.lcdc.getLsbD 0 = true ∧ b.color ≠ 0#2 ∧ (b.bgPriority = true ∨ x.bgPriority = true)))) :
    p.mixColor b o = paletteColor p.bgPalRam b.palette b.color := by
  cases o with
  | none => rfl
  | some x =>
    have hhidden : (x.color != 0#2 && p.lcdcBit 1 &&
        (!p.lcdcBit 0 || b.color == 0#2 || (!b.bgPriority && !x.bgPriority))) = false := by
      obtain h | h | ⟨y, hy, h | ⟨h0, hb, hp⟩⟩ := h
      · cases h
      · simp [show p.lcdcBit 1 = false from h]
      · cases hy; simp [h]
      · cases hy
        obtain hp | hp := hp <;> simp [show p.lcdcBit 0 = true from h0, hb, hp]
    simp only [Ppu.mixColor, hhidden, Bool.false_eq_true, if_false]

end Mixing

/-- Settles O58: the object is shown or hidden, in each of the two modes. -/
theorem pixelMixing : Obligations.PixelMixing := by
  intro p b o shadeOf colourOf
  have hshade (pal : Byte) (c : BitVec 2) : shadeOf pal c = shade pal c := (shade_eq pal c).symm
  have hcolour (ram : Memory) (k : BitVec 3) (c : BitVec 2) : colourOf ram k c = paletteColor ram k c :=
    (paletteColor_eq ram k c).symm
  simp only [hshade, hcolour]
  refine ⟨fun x ho hx hobj => ?_, mixDmg_background, mixColor_background⟩
  subst ho
  exact ⟨mixDmg_object hx hobj, mixColor_object hx hobj⟩

end Sys2Proof
end

section
/-! PROOFS. Construction (R142, R150, R151, R530): the header codes, the refusals in order, and the power-on values. -/

namespace Sys2Proof

open Sys2Proof.Machine Sys2Proof.Claims

/-! ### The header codes (R142, R150, R151) -/

theorem romBankCount_of_le {code : Byte} (h : code.toNat ≤ 8) : romBankCount code = some (2 ^ (code.toNat + 1)) := by
  rw [romBankCount, if_pos h, Nat.pow_succ']

theorem romBankCount_of_gt {code : Byte} (h : 8 < code.toNat) : romBankCount code = none := if_neg (by omega)

/-- The RAM-size codes that are declared (R150). -/
theorem ramBankCount_eq_none (code : Byte) :
    ramBankCount code = none ↔ code.toNat ∉ [0x00, 0x02, 0x03, 0x04, 0x05] := by
  unfold ramBankCount
  split
  case h_6 h0 h2 h3 h4 h5 => simpa using ⟨h0, h2, h3, h4, h5⟩
  all_goals next h => simp [h]

/-- The RAM-size codes of at most one bank (R150). -/
theorem ramBankCount_le_one {code : Byte} {n : Nat} (h : ramBankCount code = some n) :
    n ≤ 1 ↔ code.toNat ∈ [0x00, 0x02] := by
  unfold ramBankCount at h
  split at h
  case h_6 => cases h
  all_goals next hc => cases h; simp [hc]

/-- The cartridge types that are declared (R151). -/
def typeCodes : List Nat := [0x00, 0x01, 0x02, 0x03, 0x05, 0x06, 0x08, 0x09, 0x0F, 0x10, 0x11, 0x12, 0x13, 0x19, 0x1A,
  0x1B, 0x1C, 0x1D, 0x1E]

/-- The types without a controller (R151). -/
def noMbcCodes : List Nat := [0x00, 0x08, 0x09]

/-- The control registers at power-on (R70, D56). -/
def FreshMbc (rtc : Rtc) (m : Mbc) : Prop :=
  match m with
  | .noMbc => True
  | .mbc1 r => r = { ramEnable := false, bank1 := 1, bank2 := 0, mode := 0 }
  | .mbc1m r => r = { ramEnable := false, bank1 := 1, bank2 := 0, mode := 0 }
  | .mbc2 r => r = { ramEnable := false, romBank := 1 }
  | .mbc3 r =>
    r.ramEnable = false ∧ r.romBank = 1 ∧ r.select = 0 ∧ r.latchPrev = 0xFF#8 ∧ r.live = rtc ∧ r.latched = rtc
  | .mbc5 r => r.ramEnable = false ∧ r.romBank = 1 ∧ r.ramBank = 0 ∧ r.rumble = false

/-- A type byte is undeclared, or names a variant with its registers at power-on (R151, R70). -/
theorem variantOf_cases (type : Byte) (rtc : Rtc) : (type.toNat ∉ typeCodes ∧ variantOf type rtc = none) ∨
    ∃ m, type.toNat ∈ typeCodes ∧ variantOf type rtc = some m ∧ FreshMbc rtc m ∧
      (m = .noMbc ↔ type.toNat ∈ noMbcCodes) := by
  unfold variantOf
  dsimp only
  split
  case h_20 =>
    refine .inl ⟨?_, rfl⟩
    simp only [typeCodes, List.mem_cons, List.not_mem_nil, or_false, not_or]
    constructorm* _ ∧ _ <;> assumption
  all_goals
    next h =>
      refine .inr ⟨_, by rw [h]; decide, rfl, ?_, by rw [h]; simp [noMbcCodes]⟩
      simp [FreshMbc, Mbc1Regs.reset]

/-! ### The refusals (R530) -/

/-- No-MBC cartridges have two ROM banks and at most one RAM bank (R152). -/
theorem oversizedNoMbc_eq_false (m : Mbc) (romBanks ramBanks : Nat) :
    oversizedNoMbc m romBanks ramBanks = false ↔ (m = .noMbc → romBanks = 2 ∧ ramBanks ≤ 1) := by
  cases m <;> simp [oversizedNoMbc]

section Construct
variable {i : Image} {color : Bool} {b : Boot} (hlen : 0x150 ≤ i.length)
include hlen

theorem construct_romSize (h : romBankCount (i.byte 0x148) = none) : construct i color b = .error .romSizeCode := by
  rw [construct, if_neg (by omega), h]

variable {romBanks : Nat} (hrom : romBankCount (i.byte 0x148) = some romBanks)
include hrom

theorem construct_ramSize (h : ramBankCount (i.byte 0x149) = none) : construct i color b = .error .ramSizeCode := by
  rw [construct, if_neg (by omega), hrom, h]

variable {ramBanks : Nat} (hram : ramBankCount (i.byte 0x149) = some ramBanks)
include hram

theorem construct_type (h : variantOf (i.byte 0x147) b.rtc = none) : construct i color b = .error .cartridgeType := by
  rw [construct, if_neg (by omega), hrom, hram, h]

variable {m : Mbc} (hm : variantOf (i.byte 0x147) b.rtc = some m)
include hm

theorem construct_checked : construct i color b =
    if i.length ≠ romBanks * 0x4000 then .error .imageLength
    else if oversizedNoMbc m romBanks ramBanks then .error .noMbcSize
    else .ok (powerOn { rom := i.bytes, romBanks := romBanks, ram := b.cartRam, ramBanks := ramBanks,
                        mbc := i.withMulticart romBanks m } color b) := by
  rw [construct, if_neg (by omega), hrom, hram, hm]
  rfl

omit hlen hrom hram hm in
/-- A machine is made of checked parts. -/
theorem construct_eq_ok {s : State} (h : construct i color b = .ok s) : ∃ romBanks ramBanks m,
    variantOf (i.byte 0x147) b.rtc = some m ∧
    s = powerOn { rom := i.bytes, romBanks := romBanks, ram := b.cartRam, ramBanks := ramBanks,
                  mbc := i.withMulticart romBanks m } color b := by
  by_cases hlen : i.length < 0x150
  · rw [construct, if_pos hlen] at h
    cases h
  have hlen : 0x150 ≤ i.length := Nat.le_of_not_lt hlen
  cases hrom : romBankCount (i.byte 0x148) with
  | none => cases (construct_romSize hlen hrom).symm.trans h
  | some romBanks =>
    cases hram : ramBankCount (i.byte 0x149) with
    | none => cases (construct_ramSize hlen hrom hram).symm.trans h
    | some ramBanks =>
      cases hm : variantOf (i.byte 0x147) b.rtc with
      | none => cases (construct_type hlen hrom hram hm).symm.trans h
      | some m =>
        refine ⟨romBanks, ramBanks, m, rfl, ?_⟩
        rw [construct_checked hlen hrom hram hm] at h
        split at h
        · cases h
        split at h
        · cases h
        · exact (Except.ok.inj h).symm

end Construct

/-- Settles O59: the checks one after another, each on the codes that reach it. -/
theorem constructionRefusals : Obligations.ConstructionRefusals := by
  intro i color b romCode ramCode type romBanks typeOk ramOk small
  have hlenOf (h : i.length = romBanks * 0x4000) : 0x150 ≤ i.length := by
    have : 0 < romBanks := Nat.two_pow_pos _
    omega
  have hrom (h : romCode ≤ 8) : romBankCount (i.byte 0x148) = some romBanks := romBankCount_of_le h
  have hram (h : ramOk) : ∃ n, ramBankCount (i.byte 0x149) = some n :=
    Option.ne_none_iff_exists'.1 fun hn => (ramBankCount_eq_none _).1 hn h
  have hvar (h : typeOk) : ∃ m, variantOf (i.byte 0x147) b.rtc = some m ∧ (m = .noMbc ↔ type ∈ noMbcCodes) := by
    obtain ⟨hno, -⟩ | ⟨m, -, hm, -, hiff⟩ := variantOf_cases (i.byte 0x147) b.rtc
    · exact absurd h hno
    · exact ⟨m, hm, hiff⟩
  have hsmall {m : Mbc} {n : Nat} (hm : m = .noMbc ↔ type ∈ noMbcCodes) (hn : ramBankCount (i.byte 0x149) = some n) :
      oversizedNoMbc m romBanks n = false ↔ small := by
    rw [oversizedNoMbc_eq_false, hm, ramBankCount_le_one hn]
    rfl
  refine ⟨fun h => if_pos h, fun hl h => construct_romSize hl (romBankCount_of_gt h), fun hl hr h => ?_,
    fun hl hr ho h => ?_, fun hl hr ho ht hne => ?_, fun hr ho ht heq hs => ?_, fun hr ho ht heq hs => ?_⟩
  · exact construct_ramSize hl (hrom hr) ((ramBankCount_eq_none _).2 h)
  · obtain ⟨n, hn⟩ := hram ho
    obtain ⟨-, hnone⟩ | ⟨m, hin, -⟩ := variantOf_cases (i.byte 0x147) b.rtc
    · exact construct_type hl (hrom hr) hn hnone
    · exact absurd hin h
  all_goals
    obtain ⟨n, hn⟩ := hram ho
    obtain ⟨m, hm, hiff⟩ := hvar ht
  · rw [construct_checked hl (hrom hr) hn hm, if_pos hne]
  · have hover : oversizedNoMbc m romBanks n = true := Bool.of_not_eq_false fun hf => hs ((hsmall hiff hn).1 hf)
    rw [construct_checked (hlenOf heq) (hrom hr) hn hm, if_neg (not_not.2 heq), if_pos hover]
  · have hover : oversizedNoMbc m romBanks n = false := (hsmall hiff hn).2 hs
    rw [construct_checked (hlenOf heq) (hrom hr) hn hm, if_neg (not_not.2 heq), if_neg (by rw [hover]; decide)]
    exact ⟨_, rfl, rfl, rfl⟩

/-! ### Power-on (R9, R70) -/

theorem freshMbc_withMulticart {rtc : Rtc} {m : Mbc} (h : FreshMbc rtc m) (i : Image) (romBanks : Nat) :
    FreshMbc rtc (i.withMulticart romBanks m) := by
  unfold Image.withMulticart
  split
  · split
    · rfl
    · exact h
  all_goals exact h

/-- A made machine is the power-on state with registers of the cartridge at power-on. -/
theorem construct_fresh {i : Image} {color : Bool} {b : Boot} {s : State} (h : construct i color b = .ok s) :
    ∃ c, s = powerOn c color b ∧ c.rom = i.bytes ∧ c.ram = b.cartRam ∧ FreshMbc b.rtc c.mbc := by
  obtain ⟨romBanks, ramBanks, m, hm, hs⟩ := construct_eq_ok h
  obtain ⟨-, hnone⟩ | ⟨n, -, hn, hfresh, -⟩ := variantOf_cases (i.byte 0x147) b.rtc
  · cases hm.symm.trans hnone
  · cases hm.symm.trans hn
    exact ⟨_, hs, rfl, rfl, freshMbc_withMulticart hfresh i romBanks⟩

/-- The reset state is a power-on state too. -/
theorem reset_eq_powerOn : State.reset = powerOn .reset false .default := by decide

/-- Settles O60: a constructed machine and the reset state are both `powerOn` states with fresh registers. -/
theorem powerOnValues : Obligations.PowerOnValues := by
  refine ⟨fun s hs => ?_, fun i color b s h => ?_⟩
  · obtain ⟨c, color, b, rfl, hfresh⟩ : ∃ c color b, s = powerOn c color b ∧ FreshMbc b.rtc c.mbc := by
      obtain hs | ⟨i, color, b, h⟩ := hs
      · exact ⟨_, _, _, hs.trans reset_eq_powerOn, trivial⟩
      · obtain ⟨c, hs, -, -, hfresh⟩ := construct_fresh h
        exact ⟨c, color, b, hs, hfresh⟩
    have hmbc {m : Mbc} (hm : (powerOn c color b).cart.mbc = m) : FreshMbc b.rtc m := hm ▸ hfresh
    refine ⟨rfl, rfl, rfl, rfl, rfl, rfl, rfl, rfl, rfl, rfl, rfl, rfl, rfl, rfl, rfl, rfl, rfl, rfl, rfl, rfl,
      rfl, rfl, rfl, rfl, rfl, rfl, rfl, rfl, rfl, rfl, rfl, rfl, rfl, rfl, rfl, rfl, rfl, rfl, rfl, rfl, rfl,
      rfl, rfl, rfl, rfl, rfl, rfl, rfl, rfl, fun r => hmbc, fun r => hmbc, fun r => hmbc, fun r hr => ?_, fun r
      => hmbc⟩
    obtain ⟨he, hb, hs, hl, hlive, hlatched⟩ := hmbc hr
    exact ⟨he, hb, hs, hl, hlatched.trans hlive.symm⟩
  · obtain ⟨c, rfl, hrom, hram, hfresh⟩ := construct_fresh h
    refine ⟨rfl, rfl, rfl, rfl, rfl, rfl, rfl, rfl, rfl, rfl, rfl, rfl, hrom, hram, fun r hr => ?_, rfl, rfl⟩
    have hmbc : FreshMbc b.rtc (.mbc3 r) := hr ▸ hfresh
    obtain ⟨-, -, -, -, hlive, hlatched⟩ := hmbc
    exact ⟨hlive, hlatched⟩

end Sys2Proof
end

section
/-! PROOFS. The frame of a store (R121, R135): a write of a plain address leaves every other byte, and so does every
instruction that stores. -/

namespace Sys2Proof

open Sys2Proof.Machine Sys2Proof.Claims

/-! ### The regions of plain addresses (R103, R121) -/

theorem regionOf_bounds (a : Word) :
    (regionOf a = .rom → a.toNat ≤ 0x7FFF) ∧ (regionOf a = .vram → 0x8000 ≤ a.toNat) ∧
    (regionOf a = .cartRam → 0xA000 ≤ a.toNat) ∧
    (regionOf a = .wramFixed ∨ regionOf a = .wramBanked → 0xC000 ≤ a.toNat ∧ a.toNat ≤ 0xDFFF) ∧
    (regionOf a = .oam → 0xFE00 ≤ a.toNat) ∧ (regionOf a = .hram → 0xFF80 ≤ a.toNat) ∧
    (regionOf a = .ie → a.toNat = 0xFFFF) := by
  have ha := a.isLt
  unfold regionOf
  simp only [ite_eq_iff, reduceCtorEq, and_false, or_false, false_or, and_true, not_le]
  omega

theorem isEnvAddr_of_plain {a : Word} (h : plain a = true) : isEnvAddr a = false := by
  by_contra henv
  have henv : isEnvAddr a = true := Bool.of_not_eq_false henv
  simp only [isEnvAddr, Bool.and_eq_true, decide_eq_true_eq] at henv
  obtain ⟨⟨hlo, hhi⟩, -⟩ := henv
  rw [plain, regionOf_io hlo (by omega)] at h
  exact Bool.noConfusion h

theorem ne_hole_of_plain {a : Word} (h : plain a = true) : regionOf a ≠ .hole := by
  intro hr
  rw [plain, hr] at h
  exact Bool.noConfusion h

/-! ### Work RAM and its echo (R109, R110) -/

/-- The work-RAM address a byte is reached by: an echo address mirrors the one 0x2000 lower. -/
def mirror (a : Word) : Word := if regionOf a = .echo then echoOf a else a

/-- An address of work RAM or of its echo. -/
def InWram (a : Word) : Prop := regionOf a = .wramFixed ∨ regionOf a = .wramBanked ∨ regionOf a = .echo

theorem mirror_bounds {a : Word} (h : InWram a) : 0xC000 ≤ (mirror a).toNat ∧ (mirror a).toNat ≤ 0xDFFF := by
  unfold mirror
  obtain h | h | h := h
  · rw [if_neg (by rw [h]; decide)]
    exact (regionOf_bounds a).2.2.2.1 (.inl h)
  · rw [if_neg (by rw [h]; decide)]
    exact (regionOf_bounds a).2.2.2.1 (.inr h)
  · have := regionOf_echo h
    rw [if_pos h, echoOf_toNat h]
    omega

theorem wramCell_injective (s : State) {a b : Word} (ha : 0xC000 ≤ a.toNat ∧ a.toNat ≤ 0xDFFF)
    (hb : 0xC000 ≤ b.toNat ∧ b.toNat ≤ 0xDFFF) (h : s.wramCell a = s.wramCell b) : a = b := by
  have hbank : 1 ≤ s.wramBank := by
    unfold State.wramBank
    split
    · exact Nat.le_max_left _ _
    · exact Nat.le_refl 1
  apply BitVec.eq_of_toNat_eq
  unfold State.wramCell Config.wramBankSize at h
  split at h <;> split at h <;> omega

/-- Two addresses of the same work-RAM cell reach the same byte. -/
theorem sameByte_of_mirror (s : State) {a b : Word} (h : mirror a = mirror b) : sameByte s a b := by
  unfold mirror at h
  by_cases ha : regionOf a = .echo <;> by_cases hb : regionOf b = .echo
  · rw [if_pos ha, if_pos hb] at h
    exact .inl (sub_left_injective h)
  · rw [if_pos ha, if_neg hb] at h
    exact .inr (.inl ⟨ha, h.symm⟩)
  · rw [if_neg ha, if_pos hb] at h
    exact .inr (.inr (.inl ⟨hb, h⟩))
  · rw [if_neg ha, if_neg hb] at h
    exact .inl h

theorem busRead_inWram {s : State} {b : Word} (h : InWram b) :
    s.busRead b = some (Memory.read s.wram (s.wramCell (mirror b))) := by
  unfold State.busRead mirror
  obtain h | h | h := h <;> simp only [h, reduceCtorEq, if_true, if_false]

theorem busWrite_inWram {s : State} {a : Word} (h : InWram a) (v : Byte) :
    s.busWrite a v = some { s with wram := Memory.write s.wram (s.wramCell (mirror a)) v } := by
  unfold State.busWrite mirror
  obtain h | h | h := h <;> simp only [h, reduceCtorEq, if_true, if_false]

/-- Outside work RAM and its echo a read does not look at work RAM. -/
theorem busRead_setWram {s : State} {b : Word} (h : ¬ InWram b) (m : Memory) :
    State.busRead { s with wram := m } b = s.busRead b := by
  unfold State.busRead
  cases hr : regionOf b
  case wramFixed => exact absurd (.inl hr) h
  case wramBanked => exact absurd (.inr (.inl hr)) h
  case echo => exact absurd (.inr (.inr hr)) h
  all_goals rfl

/-! ### The cartridge RAM window (R157, R165, R173, R180, R195) -/

/-- The cell of cartridge RAM an address of the window reaches, if it reaches cartridge RAM. -/
def ramIndex (c : Cart) (a : Word) : Nat :=
  match c.mbc with
  | .noMbc => c.ramCell 0 (a.toNat - 0xA000)
  | .mbc1 r => c.ramCell r.ramBank (a.toNat - 0xA000)
  | .mbc1m r => c.ramCell r.ramBank (a.toNat - 0xA000)
  | .mbc2 _ => a.toNat &&& 0x01FF
  | .mbc3 r => c.ramCell r.select.toNat (a.toNat - 0xA000)
  | .mbc5 r => c.ramCell r.ramBank.toNat (a.toNat - 0xA000)

/-- A write of the window: nothing, the byte's cell, or a live clock register. -/
theorem writeRam_cases {P : Cart → Prop} (c : Cart) (a : Word) (v : Byte) (hkeep : P c)
    (hram : ∀ x, P { c with ram := Memory.write c.ram (ramIndex c a) x })
    (hclock : ∀ r live, c.mbc = .mbc3 r → P { c with mbc := .mbc3 { r with live := live } }) : P (c.writeRam a v) := by
  have hbanked (gate : Bool) (bank : Nat) (hi : ramIndex c a = c.ramCell bank (a.toNat - 0xA000)) :
      P (c.ramWrite gate bank (a.toNat - 0xA000) v) := by
    unfold Cart.ramWrite
    split
    · exact hi ▸ hram v
    · exact hkeep
  unfold Cart.writeRam
  cases hc : c.mbc with
  | noMbc => exact hbanked _ _ (by rw [ramIndex, hc])
  | mbc1 r => exact hbanked _ _ (by rw [ramIndex, hc])
  | mbc1m r => exact hbanked _ _ (by rw [ramIndex, hc])
  | mbc2 r =>
    have hi : ramIndex c a = a.toNat &&& 0x01FF := by rw [ramIndex, hc]
    dsimp only
    split
    · rw [← hi, ← hc]
      exact hram _
    · exact hkeep
  | mbc3 r =>
    dsimp only
    split
    · exact hbanked _ _ (by rw [ramIndex, hc])
    split
    · exact hclock r _ hc
    · exact hkeep
  | mbc5 r => exact hbanked _ _ (by rw [ramIndex, hc])

/-- A read of the window looks at its own cell alone. -/
theorem readRam_setRam {c : Cart} {b : Word} {m : Memory}
    (h : Memory.read m (ramIndex c b) = Memory.read c.ram (ramIndex c b)) :
    Cart.readRam { c with ram := m } b = c.readRam b := by
  have hbanked (gate : Bool) (bank : Nat) (hi : ramIndex c b = c.ramCell bank (b.toNat - 0xA000)) :
      Cart.ramRead { c with ram := m } gate bank (b.toNat - 0xA000) = c.ramRead gate bank (b.toNat - 0xA000) := by
    unfold Cart.ramRead
    rw [hi] at h
    exact congrArg (fun x => if (gate && c.ramBanks != 0) = true then x else Config.openBus) h
  unfold Cart.readRam
  cases hc : c.mbc with
  | noMbc => exact hbanked _ _ (by rw [ramIndex, hc])
  | mbc1 r => exact hbanked _ _ (by rw [ramIndex, hc])
  | mbc1m r => exact hbanked _ _ (by rw [ramIndex, hc])
  | mbc2 r =>
    rw [show ramIndex c b = b.toNat &&& 0x01FF by rw [ramIndex, hc]] at h
    dsimp only
    rw [h]
  | mbc3 r =>
    dsimp only
    split
    · exact hbanked _ _ (by rw [ramIndex, hc])
    · rfl
  | mbc5 r => exact hbanked _ _ (by rw [ramIndex, hc])

/-- Two addresses of the same cartridge-RAM cell reach the same byte. -/
theorem sameByte_of_ramIndex {s : State} {a b : Word} (ha : regionOf a = .cartRam) (hb : regionOf b = .cartRam)
    (h : ramIndex s.cart a = ramIndex s.cart b) : sameByte s a b := by
  have hla := (regionOf_bounds a).2.2.1 ha
  have hlb := (regionOf_bounds b).2.2.1 hb
  have hbanked (bank : Nat)
      (h : s.cart.ramCell bank (a.toNat - 0xA000) = s.cart.ramCell bank (b.toNat - 0xA000)) : sameByte s a b := by
    unfold Cart.ramCell at h
    exact .inl (BitVec.eq_of_toNat_eq (by omega))
  unfold ramIndex at h
  cases hc : s.cart.mbc with
  | mbc2 r =>
    rw [hc] at h
    have hmod (n : Nat) : n &&& 0x01FF = n % 512 := Nat.and_two_pow_sub_one_eq_mod n 9
    simp only [hmod] at h
    exact .inr (.inr (.inr ⟨⟨r, hc⟩, ha, hb, h⟩))
  | noMbc | mbc1 r | mbc1m r | mbc3 r | mbc5 r =>
    rw [hc] at h
    exact hbanked _ h

/-- A live clock register is not what the cartridge answers: reads see the latched ones (R181). -/
theorem read_setLive {c : Cart} {r : Mbc3Regs} (hc : c.mbc = .mbc3 r) (live : Rtc) (b : Word) :
    Cart.read { c with mbc := .mbc3 { r with live := live } } b = c.read b := by
  unfold Cart.read Cart.readRom Cart.readRam Cart.lowRomBank Cart.highRomBank
  rw [hc]
  rfl

/-- A write of the RAM window leaves what the cartridge answers elsewhere. -/
theorem cartRead_write {s : State} (hwf : Memory.wf s.cart.ram = true) {a b : Word} (ha : regionOf a = .cartRam)
    (hb : regionOf b = .rom ∨ regionOf b = .cartRam) (hne : ¬ sameByte s a b) (v : Byte) :
    (s.cart.write a v).read b = s.cart.read b := by
  rw [write_cartRam ((regionOf_bounds a).2.2.1 ha)]
  refine writeRam_cases (P := fun c => c.read b = s.cart.read b) _ a v rfl (fun x => ?_) fun r live hc =>
    read_setLive hc live b
  obtain hb | hb := hb
  · have := (regionOf_bounds b).1 hb
    rw [Cart.read, Cart.read, if_pos (by omega), if_pos (by omega)]
    rfl
  · have hlb := (regionOf_bounds b).2.2.1 hb
    rw [read_cartRam hlb, read_cartRam hlb]
    refine readRam_setRam ?_
    rw [Memory.read_write hwf, if_neg fun h => hne (sameByte_of_ramIndex ha hb h.symm)]

/-- Outside the cartridge's ranges a read does not look at the cartridge. -/
theorem busRead_setCart {s : State} {b : Word} (h : ¬ (regionOf b = .rom ∨ regionOf b = .cartRam)) (c : Cart) :
    State.busRead { s with cart := c } b = s.busRead b := by
  unfold State.busRead
  cases hr : regionOf b
  case rom => exact absurd (.inl hr) h
  case cartRam => exact absurd (.inr hr) h
  all_goals rfl

/-! ### A write of a plain address (R121) -/

section Write
variable {s t : State} {a b : Word} {v : Byte} (hs : s.memoriesWf = true) (hw : s.busWrite a v = some t)
  (hne : ¬ sameByte s a b)
include hs hw hne

theorem busRead_write_inWram (ha : InWram a) : t.busRead b = s.busRead b := by
  obtain ⟨hwram, -, -, -, -⟩ := s.memoriesWf_iff.1 hs
  cases (busWrite_inWram ha v).symm.trans hw
  by_cases hb : InWram b
  · have hcell : ¬ s.wramCell (mirror b) = s.wramCell (mirror a) := fun h =>
      hne (sameByte_of_mirror s (wramCell_injective s (mirror_bounds hb) (mirror_bounds ha) h).symm)
    rw [busRead_inWram hb, busRead_inWram hb]
    exact congrArg some ((Memory.read_write hwram _ v _).trans (if_neg hcell))
  · exact busRead_setWram hb _

theorem busRead_write_cartRam (ha : regionOf a = .cartRam) : t.busRead b = s.busRead b := by
  obtain ⟨-, -, -, -, hram⟩ := s.memoriesWf_iff.1 hs
  cases (busWrite_cart (.inr ha)).symm.trans hw
  by_cases hb : regionOf b = .rom ∨ regionOf b = .cartRam
  · rw [busRead_cart hb, busRead_cart hb]
    exact congrArg some (cartRead_write hram ha hb hne v)
  · exact busRead_setCart hb _

theorem busRead_write_vram (ha : regionOf a = .vram) : t.busRead b = s.busRead b := by
  obtain ⟨-, -, hppu, -, -⟩ := s.memoriesWf_iff.1 hs
  simp only [Ppu.memoriesWf, Bool.and_eq_true] at hppu
  obtain ⟨⟨⟨⟨hvram, -⟩, -⟩, -⟩, -⟩ := hppu
  unfold State.busWrite at hw
  simp only [ha, Option.some.injEq] at hw
  split at hw
  · rw [← hw]
  subst hw
  unfold State.busRead
  cases hb : regionOf b
  case vram =>
    have hla := (regionOf_bounds a).2.1 ha
    have hlb := (regionOf_bounds b).2.1 hb
    have hcell : ¬ s.vramCell b = s.vramCell a := fun h => by
      unfold State.vramCell at h
      exact hne (.inl (BitVec.eq_of_toNat_eq (by omega)))
    have hread : Memory.read (Memory.write s.ppu.vram (s.vramCell a) v) (s.vramCell b) =
        Memory.read s.ppu.vram (s.vramCell b) := (Memory.read_write hvram _ v _).trans (if_neg hcell)
    exact congrArg (fun x => some (if s.dma.active then Config.openBus else x)) hread
  all_goals rfl

theorem busRead_write_oam (ha : regionOf a = .oam) : t.busRead b = s.busRead b := by
  obtain ⟨-, -, hppu, -, -⟩ := s.memoriesWf_iff.1 hs
  simp only [Ppu.memoriesWf, Bool.and_eq_true] at hppu
  obtain ⟨⟨⟨⟨-, hoam⟩, -⟩, -⟩, -⟩ := hppu
  unfold State.busWrite at hw
  simp only [ha, Option.some.injEq] at hw
  split at hw
  · rw [← hw]
  subst hw
  unfold State.busRead
  cases hb : regionOf b
  case oam =>
    have hla := (regionOf_bounds a).2.2.2.2.1 ha
    have hlb := (regionOf_bounds b).2.2.2.2.1 hb
    have hcell : ¬ b.toNat - 0xFE00 = a.toNat - 0xFE00 := fun h =>
      hne (.inl (BitVec.eq_of_toNat_eq (by omega)))
    have hread : Memory.read (Memory.write s.ppu.oam (a.toNat - 0xFE00) v) (b.toNat - 0xFE00) =
        Memory.read s.ppu.oam (b.toNat - 0xFE00) := (Memory.read_write hoam _ v _).trans (if_neg hcell)
    exact congrArg (fun x => some (if s.oamBlocked then Config.openBus else x)) hread
  all_goals rfl

theorem busRead_write_hram (ha : regionOf a = .hram) : t.busRead b = s.busRead b := by
  obtain ⟨-, hhram, -, -, -⟩ := s.memoriesWf_iff.1 hs
  unfold State.busWrite at hw
  simp only [ha, Option.some.injEq] at hw
  subst hw
  unfold State.busRead
  cases hb : regionOf b
  case hram =>
    have hla := (regionOf_bounds a).2.2.2.2.2.1 ha
    have hlb := (regionOf_bounds b).2.2.2.2.2.1 hb
    have hcell : ¬ b.toNat - 0xFF80 = a.toNat - 0xFF80 := fun h =>
      hne (.inl (BitVec.eq_of_toNat_eq (by omega)))
    exact congrArg some ((Memory.read_write hhram _ v _).trans (if_neg hcell))
  all_goals rfl

omit hs in
theorem busRead_write_ie (ha : regionOf a = .ie) : t.busRead b = s.busRead b := by
  unfold State.busWrite at hw
  simp only [ha, Option.some.injEq] at hw
  subst hw
  unfold State.busRead
  cases hb : regionOf b
  case ie =>
    have hla := (regionOf_bounds a).2.2.2.2.2.2 ha
    have hlb := (regionOf_bounds b).2.2.2.2.2.2 hb
    exact absurd (.inl (BitVec.eq_of_toNat_eq (by omega))) hne
  all_goals rfl

/-- A write of a plain address leaves every other byte. -/
theorem busRead_write_plain (ha : plain a = true) : t.busRead b = s.busRead b := by
  cases hr : regionOf a
  case vram => exact busRead_write_vram hs hw hne hr
  case cartRam => exact busRead_write_cartRam hs hw hne hr
  case wramFixed => exact busRead_write_inWram hs hw hne (.inl hr)
  case wramBanked => exact busRead_write_inWram hs hw hne (.inr (.inl hr))
  case echo => exact busRead_write_inWram hs hw hne (.inr (.inr hr))
  case oam => exact busRead_write_oam hs hw hne hr
  case hram => exact busRead_write_hram hs hw hne hr
  case ie => exact busRead_write_ie hw hne hr
  case prohibited =>
    unfold State.busWrite at hw
    simp only [hr, Option.some.injEq] at hw
    rw [hw]
  all_goals
    rw [plain, hr] at ha
    exact Bool.noConfusion ha

end Write

end Sys2Proof
end

section
/-! PROOFS. The frame of every storing instruction (R121, R135): each is a write or two of the bytes it names, with
register operations before and after. -/

namespace Sys2Proof

open Sys2Proof.Machine Sys2Proof.Claims

/-! ### What is kept beside the stored bytes -/

/-- A bus write makes no MBC2 cartridge of another. -/
theorem mbc2_of_busWrite {s t : State} {a : Word} {v : Byte} (hw : s.busWrite a v = some t)
    (h : ∃ r, t.cart.mbc = .mbc2 r) : ∃ r, s.cart.mbc = .mbc2 r := by
  have hcart : (∃ r, (s.cart.write a v).mbc = .mbc2 r) → ∃ r, s.cart.mbc = .mbc2 r := by
    unfold Cart.write
    split
    · unfold Cart.writeControl
      cases hc : s.cart.mbc <;> simp [hc]
    · refine writeRam_cases (P := fun c => (∃ r, c.mbc = .mbc2 r) → ∃ r, s.cart.mbc = .mbc2 r) _ a v id (fun _ => id)
        fun _ _ _ ⟨_, hr⟩ => nomatch hr
  obtain ⟨-, -, -, -, -, -, -, -, -, hio, -, -⟩ := s.ioWrite_cpu a v
  unfold State.busWrite at hw
  cases hr : regionOf a <;> simp only [hr, Option.some.injEq, reduceCtorEq] at hw <;> subst hw
  case rom | cartRam => exact hcart h
  case io => exact hio ▸ h
  case vram | oam =>
    revert h
    split <;> exact id
  all_goals exact h

/-- State `u` is canonical and keeps every byte of `s` but those stored at the listed addresses. -/
structure Keeps (s : State) (stored : List Word) (u : State) : Prop where
  wf : u.memoriesWf = true
  mbc2 : (∃ r, u.cart.mbc = .mbc2 r) → ∃ r, s.cart.mbc = .mbc2 r
  read : ∀ b, (∀ a ∈ stored, ¬ sameByte s a b) → u.busRead b = s.busRead b

section Keeping
variable {s u : State} {stored : List Word}

theorem Keeps.refl (hs : s.memoriesWf = true) : Keeps s stored s := ⟨hs, id, fun _ _ => rfl⟩

/-- Registers, flags and the count are not on the bus. -/
theorem Keeps.cpu (h : Keeps s stored u) (g : Regs) (n : Nat) :
    Keeps s stored { u with regs := g, cyclesRemaining := n } := ⟨h.wf, h.mbc2, h.read⟩

/-- A write of a listed plain address; its byte is no other than in `s`. -/
theorem Keeps.write (h : Keeps s stored u) {a : Word} (hmem : a ∈ stored) (ha : plain a = true) (v : Byte) :
    ∃ t, u.write a v = .ok () t ∧ Keeps s stored t ∧ t.regs = u.regs := by
  obtain ⟨t, hw⟩ := u.exists_busWrite v (ne_hole_of_plain ha)
  refine ⟨t, State.write_of_some hw, ⟨State.memoriesWf_busWrite hw h.wf, fun hm => h.mbc2 (mbc2_of_busWrite hw hm),
    fun b hb => ?_⟩, (State.busWrite_cpu hw).1⟩
  have hne : ¬ sameByte u a b := by
    rintro (he | he | he | ⟨hm, he⟩)
    · exact hb a hmem (.inl he)
    · exact hb a hmem (.inr (.inl he))
    · exact hb a hmem (.inr (.inr (.inl he)))
    · exact hb a hmem (.inr (.inr (.inr ⟨h.mbc2 hm, he⟩)))
  exact (busRead_write_plain h.wf hw hne ha).trans (h.read b hb)

end Keeping

/-! ### Instructions that store one byte -/

section Byte
variable {s : State} {a : Word} (hs : s.memoriesWf = true) (ha : plain a = true)
include hs ha

theorem keeps_storeTo (v : Byte) (n : Nat) : Keeps s [a] (s.storeTo a v n) := by
  obtain ⟨t, hw, ht, -⟩ := (Keeps.refl hs).write (List.mem_singleton_self a) ha v
  rw [State.storeTo, hw]
  exact ht.cpu _ _

omit ha in
theorem keeps_storeStep (ha : plain s.regs.hl = true) (d : Word) : Keeps s [s.regs.hl] (s.storeStep d) := by
  obtain ⟨t, hw, ht, -⟩ := (Keeps.refl hs).write (List.mem_singleton_self _) ha (s.r8 .a)
  rw [State.storeStep, hw]
  exact ht.cpu _ _

end Byte

section Modify
variable {s : State} (hs : s.memoriesWf = true) (ha : plain s.regs.hl = true)
include ha

/-- The read before the write of a read-modify-write leaves the state: a plain address is no environment draw. -/
theorem readLoc_mhl_plain : ∃ v, s.readLoc .mhl = .ok v s := by
  obtain ⟨v, hv⟩ := s.exists_busRead (ne_hole_of_plain ha)
  refine ⟨v, (State.read_of_some hv).trans ?_⟩
  rw [s.afterRead_of_not_env _ (isEnvAddr_of_plain ha)]

include hs

theorem keeps_modify (f : Byte → Flags → Byte × Flags) (n : Nat) : Keeps s [s.regs.hl] (s.modify .mhl f n) := by
  obtain ⟨v, hr⟩ := readLoc_mhl_plain ha
  obtain ⟨t, hw, ht, -⟩ := (Keeps.refl hs).write (List.mem_singleton_self _) ha (f v s.flags).1
  have hloc : s.writeLoc .mhl (f v s.flags).1 = .ok () t := hw
  simp only [State.modify, hr, Access.andThen_ok, hloc, Access.run_ok]
  exact ht.cpu _ _

theorem keeps_modifyPlain (f : Byte → Byte) (n : Nat) : Keeps s [s.regs.hl] (s.modifyPlain .mhl f n) := by
  obtain ⟨v, hr⟩ := readLoc_mhl_plain ha
  obtain ⟨t, hw, ht, -⟩ := (Keeps.refl hs).write (List.mem_singleton_self _) ha (f v)
  have hloc : s.writeLoc .mhl (f v) = .ok () t := hw
  simp only [State.modifyPlain, hr, Access.andThen_ok, hloc, Access.run_ok]
  exact ht.cpu _ _

end Modify

/-- The read-modify-writes that set flags: INC, DEC, the rotates, the shifts and SWAP. -/
def flagModifies : List Instr :=
  [.inc_mhl, .dec_mhl, .rlc_mhl, .rrc_mhl, .rl_mhl, .rr_mhl, .sla_mhl, .sra_mhl, .swap_mhl, .srl_mhl]

/-- RES and SET. -/
def bitModifies : List Instr :=
  [.res_0_mhl, .res_1_mhl, .res_2_mhl, .res_3_mhl, .res_4_mhl, .res_5_mhl, .res_6_mhl, .res_7_mhl,
   .set_0_mhl, .set_1_mhl, .set_2_mhl, .set_3_mhl, .set_4_mhl, .set_5_mhl, .set_6_mhl, .set_7_mhl]

theorem modifies_eq_append : modifies = flagModifies ++ bitModifies := rfl

theorem exec_flagModifies (s : State) : ∀ i ∈ flagModifies, ∃ f n, exec i s = .next (s.modify .mhl f n) := by
  simp only [flagModifies, List.forall_mem_cons]
  refine ⟨?_, ?_, ?_, ?_, ?_, ?_, ?_, ?_, ?_, ?_, List.forall_mem_nil _⟩ <;> exact ⟨_, _, rfl⟩

theorem exec_bitModifies (s : State) : ∀ i ∈ bitModifies, ∃ f n, exec i s = .next (s.modifyPlain .mhl f n) := by
  simp only [bitModifies, List.forall_mem_cons]
  refine ⟨?_, ?_, ?_, ?_, ?_, ?_, ?_, ?_, ?_, ?_, ?_, ?_, ?_, ?_, ?_, ?_, List.forall_mem_nil _⟩ <;> exact ⟨_, _, rfl⟩

/-- Every instruction that stores one byte keeps the others. -/
theorem keeps_byteStores {s t : State} {m a : Word} {k : Byte} {i : Instr} (hs : s.memoriesWf = true)
    (hi : (i, a) ∈ byteStores s m k) (ha : plain a = true) (he : exec i s = .next t) : Keeps s [a] t := by
  simp only [byteStores, List.mem_append, List.mem_map, List.mem_cons, List.not_mem_nil, or_false, Prod.mk.injEq,
    modifies_eq_append] at hi
  obtain (⟨⟨j, a', v, n⟩, hj, rfl, rfl⟩ | ⟨rfl, rfl⟩ | ⟨rfl, rfl⟩) | ⟨j, hj | hj, rfl, rfl⟩ := hi
  · cases (exec_memoryStores hj).symm.trans he
    exact keeps_storeTo hs ha v n
  · cases (exec_ld_mhli_a s).symm.trans he
    exact keeps_storeStep hs ha 1
  · cases (exec_ld_mhld_a s).symm.trans he
    exact keeps_storeStep hs ha (-1)
  · obtain ⟨f, n, hf⟩ := exec_flagModifies s j hj
    cases hf.symm.trans he
    exact keeps_modify hs ha f n
  · obtain ⟨f, n, hf⟩ := exec_bitModifies s j hj
    cases hf.symm.trans he
    exact keeps_modifyPlain hs ha f n

/-! ### Instructions that store two bytes -/

theorem keeps_storeSp {s : State} {m : Word} (hs : s.memoriesWf = true) (h1 : plain m = true)
    (h2 : plain (m + 1) = true) : Keeps s [m, m + 1] (s.storeSp m) := by
  obtain ⟨t, hw, ht, -⟩ := (Keeps.refl hs).write (stored := [m, m + 1]) (by simp) h1 (loByte s.regs.sp)
  obtain ⟨u, hw', hu, -⟩ := ht.write (a := m + 1) (by simp) h2 (hiByte t.regs.sp)
  rw [State.storeSp, hw, Access.andThen_ok, hw']
  exact hu.cpu _ _

section Push
variable {s : State} (hs : s.memoriesWf = true) (h1 : plain (s.regs.sp - 1) = true)
  (h2 : plain (s.regs.sp - 2) = true)
include hs h1 h2

theorem keeps_push16 (v : Word) : ∃ u, s.push16 v = .ok () u ∧ Keeps s [s.regs.sp - 1, s.regs.sp - 2] u := by
  obtain ⟨t, hw, ht, hregs⟩ := ((Keeps.refl hs (stored := [s.regs.sp - 1, s.regs.sp - 2])).cpu
    (s.setR16 .sp (s.regs.sp - 1)).regs s.cyclesRemaining).write (a := s.regs.sp - 1) (by simp) h1 (hiByte v)
  have hsp : t.regs.sp - 1 = s.regs.sp - 2 := by
    rw [hregs]
    show s.regs.sp - 1 - 1 = s.regs.sp - 2
    bv_omega
  obtain ⟨u, hw', hu, -⟩ := (ht.cpu (t.setR16 .sp (t.regs.sp - 1)).regs t.cyclesRemaining).write
    (a := t.regs.sp - 1) (by rw [hsp]; simp) (hsp ▸ h2) (loByte v)
  have hhi : (s.setR16 .sp (s.regs.sp - 1)).write (s.regs.sp - 1) (hiByte v) = .ok () t := hw
  have hlo : (t.setR16 .sp (t.regs.sp - 1)).write (t.regs.sp - 1) (loByte v) = .ok () u := hw'
  refine ⟨u, ?_, hu⟩
  show ((s.setR16 .sp (s.regs.sp - 1)).write (s.regs.sp - 1) (hiByte v)).andThen _ = _
  rw [hhi]
  exact hlo

theorem keeps_pushReg (r : Reg16) : Keeps s [s.regs.sp - 1, s.regs.sp - 2] (s.pushReg r) := by
  obtain ⟨u, hp, hu⟩ := keeps_push16 hs h1 h2 (s.r16 r)
  rw [State.pushReg, hp]
  exact hu.cpu _ _

theorem keeps_call (a : Word) (n : Nat) : Keeps s [s.regs.sp - 1, s.regs.sp - 2] (s.call a n) := by
  obtain ⟨u, hp, hu⟩ := keeps_push16 hs h1 h2 s.regs.pc
  rw [State.call, hp]
  exact hu.cpu _ _

theorem keeps_callIf (cc : Cond) (a : Word) : Keeps s [s.regs.sp - 1, s.regs.sp - 2] (s.callIf cc a) := by
  unfold State.callIf
  split
  · exact keeps_call hs h1 h2 a 6
  · exact (Keeps.refl hs).cpu _ _

end Push

/-- The instructions that push a word. -/
def pushInstrs (m : Word) : List Instr :=
  [.push_bc, .push_de, .push_hl, .push_af, .call_a16 m, .call_nz_a16 m, .call_z_a16 m, .call_nc_a16 m, .call_c_a16 m,
    .rst_00, .rst_08, .rst_10, .rst_18, .rst_20, .rst_28, .rst_30, .rst_38]

/-- PUSH, CALL or RST as the model runs it. -/
inductive PushesWord (s : State) : State → Prop where
  | pushReg (r : Reg16) : PushesWord s (s.pushReg r)
  | call (a : Word) (n : Nat) : PushesWord s (s.call a n)
  | callIf (cc : Cond) (a : Word) : PushesWord s (s.callIf cc a)

theorem exec_pushInstrs (s : State) (m : Word) : ∀ i ∈ pushInstrs m, ∃ t, exec i s = .next t ∧ PushesWord s t := by
  simp only [pushInstrs, List.forall_mem_cons]
  exact ⟨⟨_, rfl, .pushReg _⟩, ⟨_, rfl, .pushReg _⟩, ⟨_, rfl, .pushReg _⟩, ⟨_, rfl, .pushReg _⟩, ⟨_, rfl, .call _ _⟩,
    ⟨_, rfl, .callIf _ _⟩, ⟨_, rfl, .callIf _ _⟩, ⟨_, rfl, .callIf _ _⟩, ⟨_, rfl, .callIf _ _⟩, ⟨_, rfl, .call _ _⟩,
    ⟨_, rfl, .call _ _⟩, ⟨_, rfl, .call _ _⟩, ⟨_, rfl, .call _ _⟩, ⟨_, rfl, .call _ _⟩, ⟨_, rfl, .call _ _⟩,
    ⟨_, rfl, .call _ _⟩, ⟨_, rfl, .call _ _⟩, List.forall_mem_nil _⟩

/-- Every instruction that stores two bytes keeps the others. -/
theorem keeps_wordStores {s t : State} {m a a' : Word} {i : Instr} (hs : s.memoriesWf = true)
    (hi : (i, a, a') ∈ wordStores s m) (ha : plain a = true) (ha' : plain a' = true) (he : exec i s = .next t) :
    Keeps s [a, a'] t := by
  obtain hi | hi := List.mem_cons.1 hi
  · cases hi
    cases (exec_ld_ma16_sp m s).symm.trans he
    exact keeps_storeSp hs ha ha'
  · obtain ⟨j, hj, hja⟩ := List.mem_map.1 hi
    cases hja
    obtain ⟨u, hu, hp⟩ := exec_pushInstrs s m i hj
    cases hu.symm.trans he
    cases hp with
    | pushReg r => exact keeps_pushReg hs ha ha' r
    | call b n => exact keeps_call hs ha ha' b n
    | callIf cc b => exact keeps_callIf hs ha ha' cc b

/-- Settles O25: every storing instruction `Keeps` all but the bytes it names. -/
theorem storingInstructionFrames : Obligations.StoringInstructionFrames :=
  ⟨fun _ _ _ _ _ _ hs hi ha he b hne => (keeps_byteStores hs hi ha he).read b (by simpa using hne),
    fun _ _ _ _ _ _ hs hi ha ha' he b hne hne' =>
      (keeps_wordStores hs hi ha ha' he).read b (by simpa using ⟨hne, hne'⟩)⟩

end Sys2Proof
end
